-- ==== Sys2Proof/Word.lean ====
section
/-! DEFINITION. The word types of the LR35902 CORE: bytes, 16-bit words and the list that holds memory. -/

namespace Sys2Proof

/-- An 8-bit value: a register, a memory cell, an opcode byte (R6). -/
abbrev Byte := BitVec 8

/-- A 16-bit value: a register pair, SP, pc, an address (R6). -/
abbrev Word := BitVec 16

/-- Storage as a list of (address, byte) pairs. Its canonical form is `Memory.wf`. -/
abbrev Memory := List Host.Cell

end Sys2Proof
end

