-- ==== Sys2Proof/Machine/Bits.lean ====
section
/-! DEFINITION. Bit fields, byte order and sign extension: the slices of R15 and the little-endian pairs of R95. -/

namespace Sys2Proof.Machine

/-- `v[7:0]` (R15). -/
def lo (v : Word) : Byte := v.extractLsb' 0 8

/-- `v[15:8]` (R15). -/
def hi (v : Word) : Byte := v.extractLsb' 8 8

/-- `h ++ l` with `h` in the high bits (R15, R22). -/
def pair (h l : Byte) : Word := h ++ l

/-- `sext_16(b)`: two's complement sign extension of a byte (R15). -/
def sext16 (b : Byte) : Word := b.signExtend 16

/-- `zext_16(b)` (R15). -/
def zext16 (b : Byte) : Word := b.setWidth 16

/-- A Boolean as the number 1 or 0 in a byte (R15). -/
def bitByte (b : Bool) : Byte := if b then 1 else 0

/-- `a & 0xF` as a number, the nibble the half-carry rules add (R151). -/
def nibble (a : Byte) : Nat := (a &&& 0x0F).toNat

end Sys2Proof.Machine
end

