-- ==== Sys2Proof/WellFormed.lean ====
section
/-! DEFINITION. Which terms of `Instr` are instructions of the machine. Every operand field of the syntax is exactly as
wide as its encoding field, so two checks remain. -/

namespace Sys2Proof

/-- The eleven unassigned base opcodes (R134). -/
def illegalOpcodes : List Byte :=
  [0xD3, 0xDB, 0xDD, 0xE3, 0xE4, 0xEB, 0xEC, 0xED, 0xF4, 0xFC, 0xFD]

/-- Well-formed: `illegal` carries one of the eleven opcodes of R134, and the prefix byte is not an instruction on its
own (R336). -/
def Instr.wellFormed : Instr → Bool
  | .illegal op => illegalOpcodes.contains op
  | .prefix_CB => false
  | _ => true

end Sys2Proof
end

