-- ==== Sys2Proof/Decode.lean ====
section
/-! DEFINITION. The decoder, total on every list of bytes, and after it the encoder. The opcode maps follow R128 to R133
by the fields x, y, z of R127. Opcode values, fields and lengths are the spec's from general knowledge (G1, log 16). -/

namespace Sys2Proof

open Sys2Proof.Machine

/-! ### Fields and codes (R124 to R127) -/

/-- `x = op[7:6]` (R127). -/
def fieldX (op : Byte) : Nat := (op.extractLsb' 6 2).toNat

/-- The value of a 3-bit slice. -/
def octOf (v : BitVec 3) : Oct :=
  match v.toNat with
  | 0 => .o0 | 1 => .o1 | 2 => .o2 | 3 => .o3 | 4 => .o4 | 5 => .o5 | 6 => .o6 | _ => .o7

/-- `y = op[5:3]` (R127). -/
def fieldY (op : Byte) : Oct := octOf (op.extractLsb' 3 3)

/-- `z = op[2:0]` (R127). -/
def fieldZ (op : Byte) : Oct := octOf (op.extractLsb' 0 3)

/-- The number a 3-bit field stands for. -/
def Oct.toNat : Oct → Nat
  | .o0 => 0 | .o1 => 1 | .o2 => 2 | .o3 => 3 | .o4 => 4 | .o5 => 5 | .o6 => 6 | .o7 => 7

/-- `r8(i)` (R124). -/
def opnd8Of : Oct → Opnd8
  | .o0 => .reg .b | .o1 => .reg .c | .o2 => .reg .d | .o3 => .reg .e
  | .o4 => .reg .h | .o5 => .reg .l | .o6 => .mHL | .o7 => .reg .a

/-- `alu(y)` (R130). -/
def aluOpOf : Oct → AluOp
  | .o0 => .add | .o1 => .adc | .o2 => .sub | .o3 => .sbc | .o4 => .and | .o5 => .xor | .o6 => .or | .o7 => .cp

/-- `rot(y)` (R133). -/
def rotOpOf : Oct → RotOp
  | .o0 => .rlc | .o1 => .rrc | .o2 => .rl | .o3 => .rr | .o4 => .sla | .o5 => .sra | .o6 => .swap | .o7 => .srl

/-! ### Families: the instruction of each operand code -/

/-- LD r8(y),r8(z); the slot (HL),(HL) is HALT (R129). -/
def ldInstr : Opnd8 → Opnd8 → Instr
  | .reg .b, .reg .b => .ld_B_B | .reg .b, .reg .c => .ld_B_C | .reg .b, .reg .d => .ld_B_D
  | .reg .b, .reg .e => .ld_B_E | .reg .b, .reg .h => .ld_B_H | .reg .b, .reg .l => .ld_B_L
  | .reg .b, .mHL => .ld_B_mHL | .reg .b, .reg .a => .ld_B_A | .reg .c, .reg .b => .ld_C_B
  | .reg .c, .reg .c => .ld_C_C | .reg .c, .reg .d => .ld_C_D | .reg .c, .reg .e => .ld_C_E
  | .reg .c, .reg .h => .ld_C_H | .reg .c, .reg .l => .ld_C_L | .reg .c, .mHL => .ld_C_mHL
  | .reg .c, .reg .a => .ld_C_A | .reg .d, .reg .b => .ld_D_B | .reg .d, .reg .c => .ld_D_C
  | .reg .d, .reg .d => .ld_D_D | .reg .d, .reg .e => .ld_D_E | .reg .d, .reg .h => .ld_D_H
  | .reg .d, .reg .l => .ld_D_L | .reg .d, .mHL => .ld_D_mHL | .reg .d, .reg .a => .ld_D_A
  | .reg .e, .reg .b => .ld_E_B | .reg .e, .reg .c => .ld_E_C | .reg .e, .reg .d => .ld_E_D
  | .reg .e, .reg .e => .ld_E_E | .reg .e, .reg .h => .ld_E_H | .reg .e, .reg .l => .ld_E_L
  | .reg .e, .mHL => .ld_E_mHL | .reg .e, .reg .a => .ld_E_A | .reg .h, .reg .b => .ld_H_B
  | .reg .h, .reg .c => .ld_H_C | .reg .h, .reg .d => .ld_H_D | .reg .h, .reg .e => .ld_H_E
  | .reg .h, .reg .h => .ld_H_H | .reg .h, .reg .l => .ld_H_L | .reg .h, .mHL => .ld_H_mHL
  | .reg .h, .reg .a => .ld_H_A | .reg .l, .reg .b => .ld_L_B | .reg .l, .reg .c => .ld_L_C
  | .reg .l, .reg .d => .ld_L_D | .reg .l, .reg .e => .ld_L_E | .reg .l, .reg .h => .ld_L_H
  | .reg .l, .reg .l => .ld_L_L | .reg .l, .mHL => .ld_L_mHL | .reg .l, .reg .a => .ld_L_A
  | .mHL, .reg .b => .ld_mHL_B | .mHL, .reg .c => .ld_mHL_C | .mHL, .reg .d => .ld_mHL_D | .mHL, .reg .e => .ld_mHL_E
  | .mHL, .reg .h => .ld_mHL_H | .mHL, .reg .l => .ld_mHL_L | .mHL, .mHL => .halt | .mHL, .reg .a => .ld_mHL_A
  | .reg .a, .reg .b => .ld_A_B | .reg .a, .reg .c => .ld_A_C | .reg .a, .reg .d => .ld_A_D
  | .reg .a, .reg .e => .ld_A_E | .reg .a, .reg .h => .ld_A_H | .reg .a, .reg .l => .ld_A_L
  | .reg .a, .mHL => .ld_A_mHL | .reg .a, .reg .a => .ld_A_A

/-- LD r8(y),n (R128, z = 6). -/
def ldImmInstr (n : Byte) : Opnd8 → Instr
  | .reg .b => .ld_B_n n | .reg .c => .ld_C_n n | .reg .d => .ld_D_n n | .reg .e => .ld_E_n n | .reg .h => .ld_H_n n
  | .reg .l => .ld_L_n n | .mHL => .ld_mHL_n n | .reg .a => .ld_A_n n

/-- INC r8(y) (R128, z = 4). -/
def incInstr : Opnd8 → Instr
  | .reg .b => .inc_B | .reg .c => .inc_C | .reg .d => .inc_D | .reg .e => .inc_E | .reg .h => .inc_H
  | .reg .l => .inc_L | .mHL => .inc_mHL | .reg .a => .inc_A

/-- DEC r8(y) (R128, z = 5). -/
def decInstr : Opnd8 → Instr
  | .reg .b => .dec_B | .reg .c => .dec_C | .reg .d => .dec_D | .reg .e => .dec_E | .reg .h => .dec_H
  | .reg .l => .dec_L | .mHL => .dec_mHL | .reg .a => .dec_A

/-- alu(y) A,r8(z) (R130). -/
def aluInstr : AluOp → Opnd8 → Instr
  | .add, .reg .b => .add_A_B | .add, .reg .c => .add_A_C | .add, .reg .d => .add_A_D | .add, .reg .e => .add_A_E
  | .add, .reg .h => .add_A_H | .add, .reg .l => .add_A_L | .add, .mHL => .add_A_mHL | .add, .reg .a => .add_A_A
  | .adc, .reg .b => .adc_A_B | .adc, .reg .c => .adc_A_C | .adc, .reg .d => .adc_A_D | .adc, .reg .e => .adc_A_E
  | .adc, .reg .h => .adc_A_H | .adc, .reg .l => .adc_A_L | .adc, .mHL => .adc_A_mHL | .adc, .reg .a => .adc_A_A
  | .sub, .reg .b => .sub_B | .sub, .reg .c => .sub_C | .sub, .reg .d => .sub_D | .sub, .reg .e => .sub_E
  | .sub, .reg .h => .sub_H | .sub, .reg .l => .sub_L | .sub, .mHL => .sub_mHL | .sub, .reg .a => .sub_A
  | .sbc, .reg .b => .sbc_A_B | .sbc, .reg .c => .sbc_A_C | .sbc, .reg .d => .sbc_A_D | .sbc, .reg .e => .sbc_A_E
  | .sbc, .reg .h => .sbc_A_H | .sbc, .reg .l => .sbc_A_L | .sbc, .mHL => .sbc_A_mHL | .sbc, .reg .a => .sbc_A_A
  | .and, .reg .b => .and_B | .and, .reg .c => .and_C | .and, .reg .d => .and_D | .and, .reg .e => .and_E
  | .and, .reg .h => .and_H | .and, .reg .l => .and_L | .and, .mHL => .and_mHL | .and, .reg .a => .and_A
  | .xor, .reg .b => .xor_B | .xor, .reg .c => .xor_C | .xor, .reg .d => .xor_D | .xor, .reg .e => .xor_E
  | .xor, .reg .h => .xor_H | .xor, .reg .l => .xor_L | .xor, .mHL => .xor_mHL | .xor, .reg .a => .xor_A
  | .or, .reg .b => .or_B | .or, .reg .c => .or_C | .or, .reg .d => .or_D | .or, .reg .e => .or_E
  | .or, .reg .h => .or_H | .or, .reg .l => .or_L | .or, .mHL => .or_mHL | .or, .reg .a => .or_A
  | .cp, .reg .b => .cp_B | .cp, .reg .c => .cp_C | .cp, .reg .d => .cp_D | .cp, .reg .e => .cp_E
  | .cp, .reg .h => .cp_H | .cp, .reg .l => .cp_L | .cp, .mHL => .cp_mHL | .cp, .reg .a => .cp_A

/-- alu(y) A,n (R131, z = 6). -/
def aluImmInstr (n : Byte) : AluOp → Instr
  | .add => .add_A_n n | .adc => .adc_A_n n | .sub => .sub_n n | .sbc => .sbc_A_n n | .and => .and_n n
  | .xor => .xor_n n | .or => .or_n n | .cp => .cp_n n

/-- LD rr(p),nn (R128, z = 1). -/
def ld16Instr (nn : Word) : Reg16 → Instr
  | .bc => .ld_BC_nn nn | .de => .ld_DE_nn nn | .hl => .ld_HL_nn nn | .sp => .ld_SP_nn nn

/-- ADD HL,rr(p) (R128, z = 1). -/
def addHLInstr : Reg16 → Instr
  | .bc => .add_HL_BC | .de => .add_HL_DE | .hl => .add_HL_HL | .sp => .add_HL_SP

/-- INC rr(p) (R128, z = 3). -/
def inc16Instr : Reg16 → Instr
  | .bc => .inc_BC | .de => .inc_DE | .hl => .inc_HL | .sp => .inc_SP

/-- DEC rr(p) (R128, z = 3). -/
def dec16Instr : Reg16 → Instr
  | .bc => .dec_BC | .de => .dec_DE | .hl => .dec_HL | .sp => .dec_SP

/-- PUSH rr2(p) (R131, z = 5). -/
def pushInstr : StkReg → Instr
  | .bc => .push_BC | .de => .push_DE | .hl => .push_HL | .af => .push_AF

/-- POP rr2(p) (R131, z = 1). -/
def popInstr : StkReg → Instr
  | .bc => .pop_BC | .de => .pop_DE | .hl => .pop_HL | .af => .pop_AF

/-- JP cc,nn (R131, z = 2). -/
def jpCondInstr (nn : Word) : Cond → Instr
  | .nz => .jp_NZ_nn nn | .z => .jp_Z_nn nn | .nc => .jp_NC_nn nn | .c => .jp_C_nn nn

/-- JR cc,e (R128, z = 0). -/
def jrCondInstr (e : Byte) : Cond → Instr
  | .nz => .jr_NZ_e e | .z => .jr_Z_e e | .nc => .jr_NC_e e | .c => .jr_C_e e

/-- CALL cc,nn (R131, z = 4). -/
def callCondInstr (nn : Word) : Cond → Instr
  | .nz => .call_NZ_nn nn | .z => .call_Z_nn nn | .nc => .call_NC_nn nn | .c => .call_C_nn nn

/-- RET cc (R131, z = 0). -/
def retCondInstr : Cond → Instr
  | .nz => .ret_NZ | .z => .ret_Z | .nc => .ret_NC | .c => .ret_C

/-- RST y * 8 (R131, z = 7). -/
def rstInstr : Oct → Instr
  | .o0 => .rst_00 | .o1 => .rst_08 | .o2 => .rst_10 | .o3 => .rst_18 | .o4 => .rst_20 | .o5 => .rst_28
  | .o6 => .rst_30 | .o7 => .rst_38

/-- rot(y) r8(z) (R133, x = 0). -/
def rotInstr : RotOp → Opnd8 → Instr
  | .rlc, .reg .b => .rlc_B | .rlc, .reg .c => .rlc_C | .rlc, .reg .d => .rlc_D | .rlc, .reg .e => .rlc_E
  | .rlc, .reg .h => .rlc_H | .rlc, .reg .l => .rlc_L | .rlc, .mHL => .rlc_mHL | .rlc, .reg .a => .rlc_A
  | .rrc, .reg .b => .rrc_B | .rrc, .reg .c => .rrc_C | .rrc, .reg .d => .rrc_D | .rrc, .reg .e => .rrc_E
  | .rrc, .reg .h => .rrc_H | .rrc, .reg .l => .rrc_L | .rrc, .mHL => .rrc_mHL | .rrc, .reg .a => .rrc_A
  | .rl, .reg .b => .rl_B | .rl, .reg .c => .rl_C | .rl, .reg .d => .rl_D | .rl, .reg .e => .rl_E
  | .rl, .reg .h => .rl_H | .rl, .reg .l => .rl_L | .rl, .mHL => .rl_mHL | .rl, .reg .a => .rl_A
  | .rr, .reg .b => .rr_B | .rr, .reg .c => .rr_C | .rr, .reg .d => .rr_D | .rr, .reg .e => .rr_E
  | .rr, .reg .h => .rr_H | .rr, .reg .l => .rr_L | .rr, .mHL => .rr_mHL | .rr, .reg .a => .rr_A
  | .sla, .reg .b => .sla_B | .sla, .reg .c => .sla_C | .sla, .reg .d => .sla_D | .sla, .reg .e => .sla_E
  | .sla, .reg .h => .sla_H | .sla, .reg .l => .sla_L | .sla, .mHL => .sla_mHL | .sla, .reg .a => .sla_A
  | .sra, .reg .b => .sra_B | .sra, .reg .c => .sra_C | .sra, .reg .d => .sra_D | .sra, .reg .e => .sra_E
  | .sra, .reg .h => .sra_H | .sra, .reg .l => .sra_L | .sra, .mHL => .sra_mHL | .sra, .reg .a => .sra_A
  | .swap, .reg .b => .swap_B | .swap, .reg .c => .swap_C | .swap, .reg .d => .swap_D | .swap, .reg .e => .swap_E
  | .swap, .reg .h => .swap_H | .swap, .reg .l => .swap_L | .swap, .mHL => .swap_mHL | .swap, .reg .a => .swap_A
  | .srl, .reg .b => .srl_B | .srl, .reg .c => .srl_C | .srl, .reg .d => .srl_D | .srl, .reg .e => .srl_E
  | .srl, .reg .h => .srl_H | .srl, .reg .l => .srl_L | .srl, .mHL => .srl_mHL | .srl, .reg .a => .srl_A

/-- BIT y,r8(z) (R133, x = 1). -/
def bitInstr : Oct → Opnd8 → Instr
  | .o0, .reg .b => .bit_0_B | .o0, .reg .c => .bit_0_C | .o0, .reg .d => .bit_0_D | .o0, .reg .e => .bit_0_E
  | .o0, .reg .h => .bit_0_H | .o0, .reg .l => .bit_0_L | .o0, .mHL => .bit_0_mHL | .o0, .reg .a => .bit_0_A
  | .o1, .reg .b => .bit_1_B | .o1, .reg .c => .bit_1_C | .o1, .reg .d => .bit_1_D | .o1, .reg .e => .bit_1_E
  | .o1, .reg .h => .bit_1_H | .o1, .reg .l => .bit_1_L | .o1, .mHL => .bit_1_mHL | .o1, .reg .a => .bit_1_A
  | .o2, .reg .b => .bit_2_B | .o2, .reg .c => .bit_2_C | .o2, .reg .d => .bit_2_D | .o2, .reg .e => .bit_2_E
  | .o2, .reg .h => .bit_2_H | .o2, .reg .l => .bit_2_L | .o2, .mHL => .bit_2_mHL | .o2, .reg .a => .bit_2_A
  | .o3, .reg .b => .bit_3_B | .o3, .reg .c => .bit_3_C | .o3, .reg .d => .bit_3_D | .o3, .reg .e => .bit_3_E
  | .o3, .reg .h => .bit_3_H | .o3, .reg .l => .bit_3_L | .o3, .mHL => .bit_3_mHL | .o3, .reg .a => .bit_3_A
  | .o4, .reg .b => .bit_4_B | .o4, .reg .c => .bit_4_C | .o4, .reg .d => .bit_4_D | .o4, .reg .e => .bit_4_E
  | .o4, .reg .h => .bit_4_H | .o4, .reg .l => .bit_4_L | .o4, .mHL => .bit_4_mHL | .o4, .reg .a => .bit_4_A
  | .o5, .reg .b => .bit_5_B | .o5, .reg .c => .bit_5_C | .o5, .reg .d => .bit_5_D | .o5, .reg .e => .bit_5_E
  | .o5, .reg .h => .bit_5_H | .o5, .reg .l => .bit_5_L | .o5, .mHL => .bit_5_mHL | .o5, .reg .a => .bit_5_A
  | .o6, .reg .b => .bit_6_B | .o6, .reg .c => .bit_6_C | .o6, .reg .d => .bit_6_D | .o6, .reg .e => .bit_6_E
  | .o6, .reg .h => .bit_6_H | .o6, .reg .l => .bit_6_L | .o6, .mHL => .bit_6_mHL | .o6, .reg .a => .bit_6_A
  | .o7, .reg .b => .bit_7_B | .o7, .reg .c => .bit_7_C | .o7, .reg .d => .bit_7_D | .o7, .reg .e => .bit_7_E
  | .o7, .reg .h => .bit_7_H | .o7, .reg .l => .bit_7_L | .o7, .mHL => .bit_7_mHL | .o7, .reg .a => .bit_7_A

/-- RES y,r8(z) (R133, x = 2). -/
def resInstr : Oct → Opnd8 → Instr
  | .o0, .reg .b => .res_0_B | .o0, .reg .c => .res_0_C | .o0, .reg .d => .res_0_D | .o0, .reg .e => .res_0_E
  | .o0, .reg .h => .res_0_H | .o0, .reg .l => .res_0_L | .o0, .mHL => .res_0_mHL | .o0, .reg .a => .res_0_A
  | .o1, .reg .b => .res_1_B | .o1, .reg .c => .res_1_C | .o1, .reg .d => .res_1_D | .o1, .reg .e => .res_1_E
  | .o1, .reg .h => .res_1_H | .o1, .reg .l => .res_1_L | .o1, .mHL => .res_1_mHL | .o1, .reg .a => .res_1_A
  | .o2, .reg .b => .res_2_B | .o2, .reg .c => .res_2_C | .o2, .reg .d => .res_2_D | .o2, .reg .e => .res_2_E
  | .o2, .reg .h => .res_2_H | .o2, .reg .l => .res_2_L | .o2, .mHL => .res_2_mHL | .o2, .reg .a => .res_2_A
  | .o3, .reg .b => .res_3_B | .o3, .reg .c => .res_3_C | .o3, .reg .d => .res_3_D | .o3, .reg .e => .res_3_E
  | .o3, .reg .h => .res_3_H | .o3, .reg .l => .res_3_L | .o3, .mHL => .res_3_mHL | .o3, .reg .a => .res_3_A
  | .o4, .reg .b => .res_4_B | .o4, .reg .c => .res_4_C | .o4, .reg .d => .res_4_D | .o4, .reg .e => .res_4_E
  | .o4, .reg .h => .res_4_H | .o4, .reg .l => .res_4_L | .o4, .mHL => .res_4_mHL | .o4, .reg .a => .res_4_A
  | .o5, .reg .b => .res_5_B | .o5, .reg .c => .res_5_C | .o5, .reg .d => .res_5_D | .o5, .reg .e => .res_5_E
  | .o5, .reg .h => .res_5_H | .o5, .reg .l => .res_5_L | .o5, .mHL => .res_5_mHL | .o5, .reg .a => .res_5_A
  | .o6, .reg .b => .res_6_B | .o6, .reg .c => .res_6_C | .o6, .reg .d => .res_6_D | .o6, .reg .e => .res_6_E
  | .o6, .reg .h => .res_6_H | .o6, .reg .l => .res_6_L | .o6, .mHL => .res_6_mHL | .o6, .reg .a => .res_6_A
  | .o7, .reg .b => .res_7_B | .o7, .reg .c => .res_7_C | .o7, .reg .d => .res_7_D | .o7, .reg .e => .res_7_E
  | .o7, .reg .h => .res_7_H | .o7, .reg .l => .res_7_L | .o7, .mHL => .res_7_mHL | .o7, .reg .a => .res_7_A

/-- SET y,r8(z) (R133, x = 3). -/
def setInstr : Oct → Opnd8 → Instr
  | .o0, .reg .b => .set_0_B | .o0, .reg .c => .set_0_C | .o0, .reg .d => .set_0_D | .o0, .reg .e => .set_0_E
  | .o0, .reg .h => .set_0_H | .o0, .reg .l => .set_0_L | .o0, .mHL => .set_0_mHL | .o0, .reg .a => .set_0_A
  | .o1, .reg .b => .set_1_B | .o1, .reg .c => .set_1_C | .o1, .reg .d => .set_1_D | .o1, .reg .e => .set_1_E
  | .o1, .reg .h => .set_1_H | .o1, .reg .l => .set_1_L | .o1, .mHL => .set_1_mHL | .o1, .reg .a => .set_1_A
  | .o2, .reg .b => .set_2_B | .o2, .reg .c => .set_2_C | .o2, .reg .d => .set_2_D | .o2, .reg .e => .set_2_E
  | .o2, .reg .h => .set_2_H | .o2, .reg .l => .set_2_L | .o2, .mHL => .set_2_mHL | .o2, .reg .a => .set_2_A
  | .o3, .reg .b => .set_3_B | .o3, .reg .c => .set_3_C | .o3, .reg .d => .set_3_D | .o3, .reg .e => .set_3_E
  | .o3, .reg .h => .set_3_H | .o3, .reg .l => .set_3_L | .o3, .mHL => .set_3_mHL | .o3, .reg .a => .set_3_A
  | .o4, .reg .b => .set_4_B | .o4, .reg .c => .set_4_C | .o4, .reg .d => .set_4_D | .o4, .reg .e => .set_4_E
  | .o4, .reg .h => .set_4_H | .o4, .reg .l => .set_4_L | .o4, .mHL => .set_4_mHL | .o4, .reg .a => .set_4_A
  | .o5, .reg .b => .set_5_B | .o5, .reg .c => .set_5_C | .o5, .reg .d => .set_5_D | .o5, .reg .e => .set_5_E
  | .o5, .reg .h => .set_5_H | .o5, .reg .l => .set_5_L | .o5, .mHL => .set_5_mHL | .o5, .reg .a => .set_5_A
  | .o6, .reg .b => .set_6_B | .o6, .reg .c => .set_6_C | .o6, .reg .d => .set_6_D | .o6, .reg .e => .set_6_E
  | .o6, .reg .h => .set_6_H | .o6, .reg .l => .set_6_L | .o6, .mHL => .set_6_mHL | .o6, .reg .a => .set_6_A
  | .o7, .reg .b => .set_7_B | .o7, .reg .c => .set_7_C | .o7, .reg .d => .set_7_D | .o7, .reg .e => .set_7_E
  | .o7, .reg .h => .set_7_H | .o7, .reg .l => .set_7_L | .o7, .mHL => .set_7_mHL | .o7, .reg .a => .set_7_A

/-! ### The maps -/

/-- The 0xCB map (R133). -/
def decodeCb (op2 : Byte) : Instr :=
  match fieldX op2 with
  | 0 => rotInstr (rotOpOf (fieldY op2)) (opnd8Of (fieldZ op2))
  | 1 => bitInstr (fieldY op2) (opnd8Of (fieldZ op2))
  | 2 => resInstr (fieldY op2) (opnd8Of (fieldZ op2))
  | _ => setInstr (fieldY op2) (opnd8Of (fieldZ op2))

/-- Quadrant x = 0 (R128): `b1` and `b2` are the bytes that follow. -/
def decodeX0 (y z : Oct) (b1 b2 : Byte) : Instr :=
  match z, y with
  | .o0, .o0 => .nop
  | .o0, .o1 => .ld_mnn_SP (pair b2 b1)
  | .o0, .o2 => .stop b1
  | .o0, .o3 => .jr_e b1
  | .o0, .o4 => jrCondInstr b1 .nz
  | .o0, .o5 => jrCondInstr b1 .z
  | .o0, .o6 => jrCondInstr b1 .nc
  | .o0, .o7 => jrCondInstr b1 .c
  | .o1, .o0 => ld16Instr (pair b2 b1) .bc
  | .o1, .o2 => ld16Instr (pair b2 b1) .de
  | .o1, .o4 => ld16Instr (pair b2 b1) .hl
  | .o1, .o6 => ld16Instr (pair b2 b1) .sp
  | .o1, .o1 => addHLInstr .bc
  | .o1, .o3 => addHLInstr .de
  | .o1, .o5 => addHLInstr .hl
  | .o1, .o7 => addHLInstr .sp
  | .o2, .o0 => .ld_mBC_A
  | .o2, .o2 => .ld_mDE_A
  | .o2, .o4 => .ld_mHLi_A
  | .o2, .o6 => .ld_mHLd_A
  | .o2, .o1 => .ld_A_mBC
  | .o2, .o3 => .ld_A_mDE
  | .o2, .o5 => .ld_A_mHLi
  | .o2, .o7 => .ld_A_mHLd
  | .o3, .o0 => inc16Instr .bc
  | .o3, .o2 => inc16Instr .de
  | .o3, .o4 => inc16Instr .hl
  | .o3, .o6 => inc16Instr .sp
  | .o3, .o1 => dec16Instr .bc
  | .o3, .o3 => dec16Instr .de
  | .o3, .o5 => dec16Instr .hl
  | .o3, .o7 => dec16Instr .sp
  | .o4, y => incInstr (opnd8Of y)
  | .o5, y => decInstr (opnd8Of y)
  | .o6, y => ldImmInstr b1 (opnd8Of y)
  | .o7, .o0 => .rlca
  | .o7, .o1 => .rrca
  | .o7, .o2 => .rla
  | .o7, .o3 => .rra
  | .o7, .o4 => .daa
  | .o7, .o5 => .cpl
  | .o7, .o6 => .scf
  | .o7, .o7 => .ccf

/-- Quadrant x = 3 (R131). Unassigned slots give `illegal` (R134); after the prefix the second byte selects (R133). -/
def decodeX3 (op : Byte) (y z : Oct) (b1 b2 : Byte) : Instr :=
  match z, y with
  | .o0, .o0 => retCondInstr .nz
  | .o0, .o1 => retCondInstr .z
  | .o0, .o2 => retCondInstr .nc
  | .o0, .o3 => retCondInstr .c
  | .o0, .o4 => .ldh_mn_A b1
  | .o0, .o5 => .add_SP_e b1
  | .o0, .o6 => .ldh_A_mn b1
  | .o0, .o7 => .ld_HL_SPe b1
  | .o1, .o0 => popInstr .bc
  | .o1, .o2 => popInstr .de
  | .o1, .o4 => popInstr .hl
  | .o1, .o6 => popInstr .af
  | .o1, .o1 => .ret
  | .o1, .o3 => .reti
  | .o1, .o5 => .jp_HL
  | .o1, .o7 => .ld_SP_HL
  | .o2, .o0 => jpCondInstr (pair b2 b1) .nz
  | .o2, .o1 => jpCondInstr (pair b2 b1) .z
  | .o2, .o2 => jpCondInstr (pair b2 b1) .nc
  | .o2, .o3 => jpCondInstr (pair b2 b1) .c
  | .o2, .o4 => .ld_mC_A
  | .o2, .o5 => .ld_mnn_A (pair b2 b1)
  | .o2, .o6 => .ld_A_mC
  | .o2, .o7 => .ld_A_mnn (pair b2 b1)
  | .o3, .o0 => .jp_nn (pair b2 b1)
  | .o3, .o1 => decodeCb b1
  | .o3, .o6 => .di
  | .o3, .o7 => .ei
  | .o3, _ => .illegal op
  | .o4, .o0 => callCondInstr (pair b2 b1) .nz
  | .o4, .o1 => callCondInstr (pair b2 b1) .z
  | .o4, .o2 => callCondInstr (pair b2 b1) .nc
  | .o4, .o3 => callCondInstr (pair b2 b1) .c
  | .o4, _ => .illegal op
  | .o5, .o0 => pushInstr .bc
  | .o5, .o2 => pushInstr .de
  | .o5, .o4 => pushInstr .hl
  | .o5, .o6 => pushInstr .af
  | .o5, .o1 => .call_nn (pair b2 b1)
  | .o5, _ => .illegal op
  | .o6, y => aluImmInstr b1 (aluOpOf y)
  | .o7, y => rstInstr y

/-- The base map (R132) and, behind 0xCB, the prefixed map: the instruction of an opcode byte and the two bytes that
follow it. Bytes beyond the format are not looked at. -/
def decodeOp (op b1 b2 : Byte) : Instr :=
  match fieldX op with
  | 0 => decodeX0 (fieldY op) (fieldZ op) b1 b2
  | 1 => ldInstr (opnd8Of (fieldY op)) (opnd8Of (fieldZ op))
  | 2 => aluInstr (aluOpOf (fieldY op)) (opnd8Of (fieldZ op))
  | _ => decodeX3 op (fieldY op) (fieldZ op) b1 b2

/-- The formats of R122. -/
inductive Format where
  | op | opN | opE | opNN | cb
  deriving DecidableEq, Repr

/-- The format of an opcode byte: the list under the table of R132. -/
def formatOf (op : Byte) : Format :=
  match fieldX op, fieldZ op, fieldY op with
  | 0, .o0, .o0 => .op
  | 0, .o0, .o1 => .opNN
  | 0, .o0, .o2 => .opN
  | 0, .o0, _ => .opE
  | 0, .o1, .o0 => .opNN
  | 0, .o1, .o2 => .opNN
  | 0, .o1, .o4 => .opNN
  | 0, .o1, .o6 => .opNN
  | 0, .o6, _ => .opN
  | 3, .o0, .o4 => .opN
  | 3, .o0, .o5 => .opE
  | 3, .o0, .o6 => .opN
  | 3, .o0, .o7 => .opE
  | 3, .o2, .o4 => .op
  | 3, .o2, .o6 => .op
  | 3, .o2, _ => .opNN
  | 3, .o3, .o0 => .opNN
  | 3, .o3, .o1 => .cb
  | 3, .o4, .o0 => .opNN
  | 3, .o4, .o1 => .opNN
  | 3, .o4, .o2 => .opNN
  | 3, .o4, .o3 => .opNN
  | 3, .o5, .o1 => .opNN
  | 3, .o6, _ => .opN
  | _, _, _ => .op

/-- Why a list of bytes holds no instruction. -/
inductive DecodeReject where
  /-- There is no opcode byte. -/
  | noOpcode
  /-- The list ends before the immediate bytes the opcode calls for. -/
  | missingImmediate (op : Byte)
  deriving DecidableEq, Repr

/-- What the decoder answers: an instruction and the bytes after it, or a rejection by name. -/
inductive Decoded where
  | ok (i : Instr) (rest : List Byte)
  | reject (r : DecodeReject)
  deriving DecidableEq, Repr

/-- The decoder (R121): the opcode's row, then the immediate bytes in address order. The prefix byte with nothing after
it is the prefix itself (R336, log 8). -/
def decode : List Byte → Decoded
  | [] => .reject .noOpcode
  | op :: rest =>
    match formatOf op, rest with
    | .op, rest => .ok (decodeOp op 0 0) rest
    | .opN, b1 :: rest => .ok (decodeOp op b1 0) rest
    | .opE, b1 :: rest => .ok (decodeOp op b1 0) rest
    | .opNN, b1 :: b2 :: rest => .ok (decodeOp op b1 b2) rest
    | .cb, b1 :: rest => .ok (decodeOp op b1 0) rest
    | .cb, [] => .ok .prefix_CB []
    | _, _ => .reject (.missingImmediate op)

/-! ### The encoder -/

/-- The bytes of an instruction, the lowest address first: `match` of its row of spec/opcode_table.json, then the
immediate, low byte first (R122, R123). -/
def encode : Instr → List Byte
  | .nop => [0x00] | .ld_BC_nn nn => [0x01, lo nn, hi nn] | .ld_mBC_A => [0x02] | .inc_BC => [0x03]
  | .inc_B => [0x04] | .dec_B => [0x05] | .ld_B_n n => [0x06, n] | .rlca => [0x07]
  | .ld_mnn_SP nn => [0x08, lo nn, hi nn] | .add_HL_BC => [0x09] | .ld_A_mBC => [0x0A] | .dec_BC => [0x0B]
  | .inc_C => [0x0C] | .dec_C => [0x0D] | .ld_C_n n => [0x0E, n] | .rrca => [0x0F] | .stop pad => [0x10, pad]
  | .ld_DE_nn nn => [0x11, lo nn, hi nn] | .ld_mDE_A => [0x12] | .inc_DE => [0x13] | .inc_D => [0x14]
  | .dec_D => [0x15] | .ld_D_n n => [0x16, n] | .rla => [0x17] | .jr_e e => [0x18, e] | .add_HL_DE => [0x19]
  | .ld_A_mDE => [0x1A] | .dec_DE => [0x1B] | .inc_E => [0x1C] | .dec_E => [0x1D] | .ld_E_n n => [0x1E, n]
  | .rra => [0x1F] | .jr_NZ_e e => [0x20, e] | .ld_HL_nn nn => [0x21, lo nn, hi nn] | .ld_mHLi_A => [0x22]
  | .inc_HL => [0x23] | .inc_H => [0x24] | .dec_H => [0x25] | .ld_H_n n => [0x26, n] | .daa => [0x27]
  | .jr_Z_e e => [0x28, e] | .add_HL_HL => [0x29] | .ld_A_mHLi => [0x2A] | .dec_HL => [0x2B] | .inc_L => [0x2C]
  | .dec_L => [0x2D] | .ld_L_n n => [0x2E, n] | .cpl => [0x2F] | .jr_NC_e e => [0x30, e]
  | .ld_SP_nn nn => [0x31, lo nn, hi nn] | .ld_mHLd_A => [0x32] | .inc_SP => [0x33] | .inc_mHL => [0x34]
  | .dec_mHL => [0x35] | .ld_mHL_n n => [0x36, n] | .scf => [0x37] | .jr_C_e e => [0x38, e] | .add_HL_SP => [0x39]
  | .ld_A_mHLd => [0x3A] | .dec_SP => [0x3B] | .inc_A => [0x3C] | .dec_A => [0x3D] | .ld_A_n n => [0x3E, n]
  | .ccf => [0x3F] | .ld_B_B => [0x40] | .ld_B_C => [0x41] | .ld_B_D => [0x42] | .ld_B_E => [0x43]
  | .ld_B_H => [0x44] | .ld_B_L => [0x45] | .ld_B_mHL => [0x46] | .ld_B_A => [0x47] | .ld_C_B => [0x48]
  | .ld_C_C => [0x49] | .ld_C_D => [0x4A] | .ld_C_E => [0x4B] | .ld_C_H => [0x4C] | .ld_C_L => [0x4D]
  | .ld_C_mHL => [0x4E] | .ld_C_A => [0x4F] | .ld_D_B => [0x50] | .ld_D_C => [0x51] | .ld_D_D => [0x52]
  | .ld_D_E => [0x53] | .ld_D_H => [0x54] | .ld_D_L => [0x55] | .ld_D_mHL => [0x56] | .ld_D_A => [0x57]
  | .ld_E_B => [0x58] | .ld_E_C => [0x59] | .ld_E_D => [0x5A] | .ld_E_E => [0x5B] | .ld_E_H => [0x5C]
  | .ld_E_L => [0x5D] | .ld_E_mHL => [0x5E] | .ld_E_A => [0x5F] | .ld_H_B => [0x60] | .ld_H_C => [0x61]
  | .ld_H_D => [0x62] | .ld_H_E => [0x63] | .ld_H_H => [0x64] | .ld_H_L => [0x65] | .ld_H_mHL => [0x66]
  | .ld_H_A => [0x67] | .ld_L_B => [0x68] | .ld_L_C => [0x69] | .ld_L_D => [0x6A] | .ld_L_E => [0x6B]
  | .ld_L_H => [0x6C] | .ld_L_L => [0x6D] | .ld_L_mHL => [0x6E] | .ld_L_A => [0x6F] | .ld_mHL_B => [0x70]
  | .ld_mHL_C => [0x71] | .ld_mHL_D => [0x72] | .ld_mHL_E => [0x73] | .ld_mHL_H => [0x74] | .ld_mHL_L => [0x75]
  | .halt => [0x76] | .ld_mHL_A => [0x77] | .ld_A_B => [0x78] | .ld_A_C => [0x79] | .ld_A_D => [0x7A]
  | .ld_A_E => [0x7B] | .ld_A_H => [0x7C] | .ld_A_L => [0x7D] | .ld_A_mHL => [0x7E] | .ld_A_A => [0x7F]
  | .add_A_B => [0x80] | .add_A_C => [0x81] | .add_A_D => [0x82] | .add_A_E => [0x83] | .add_A_H => [0x84]
  | .add_A_L => [0x85] | .add_A_mHL => [0x86] | .add_A_A => [0x87] | .adc_A_B => [0x88] | .adc_A_C => [0x89]
  | .adc_A_D => [0x8A] | .adc_A_E => [0x8B] | .adc_A_H => [0x8C] | .adc_A_L => [0x8D] | .adc_A_mHL => [0x8E]
  | .adc_A_A => [0x8F] | .sub_B => [0x90] | .sub_C => [0x91] | .sub_D => [0x92] | .sub_E => [0x93] | .sub_H => [0x94]
  | .sub_L => [0x95] | .sub_mHL => [0x96] | .sub_A => [0x97] | .sbc_A_B => [0x98] | .sbc_A_C => [0x99]
  | .sbc_A_D => [0x9A] | .sbc_A_E => [0x9B] | .sbc_A_H => [0x9C] | .sbc_A_L => [0x9D] | .sbc_A_mHL => [0x9E]
  | .sbc_A_A => [0x9F] | .and_B => [0xA0] | .and_C => [0xA1] | .and_D => [0xA2] | .and_E => [0xA3] | .and_H => [0xA4]
  | .and_L => [0xA5] | .and_mHL => [0xA6] | .and_A => [0xA7] | .xor_B => [0xA8] | .xor_C => [0xA9] | .xor_D => [0xAA]
  | .xor_E => [0xAB] | .xor_H => [0xAC] | .xor_L => [0xAD] | .xor_mHL => [0xAE] | .xor_A => [0xAF] | .or_B => [0xB0]
  | .or_C => [0xB1] | .or_D => [0xB2] | .or_E => [0xB3] | .or_H => [0xB4] | .or_L => [0xB5] | .or_mHL => [0xB6]
  | .or_A => [0xB7] | .cp_B => [0xB8] | .cp_C => [0xB9] | .cp_D => [0xBA] | .cp_E => [0xBB] | .cp_H => [0xBC]
  | .cp_L => [0xBD] | .cp_mHL => [0xBE] | .cp_A => [0xBF] | .ret_NZ => [0xC0] | .pop_BC => [0xC1]
  | .jp_NZ_nn nn => [0xC2, lo nn, hi nn] | .jp_nn nn => [0xC3, lo nn, hi nn] | .call_NZ_nn nn => [0xC4, lo nn, hi nn]
  | .push_BC => [0xC5] | .add_A_n n => [0xC6, n] | .rst_00 => [0xC7] | .ret_Z => [0xC8] | .ret => [0xC9]
  | .jp_Z_nn nn => [0xCA, lo nn, hi nn] | .prefix_CB => [0xCB] | .call_Z_nn nn => [0xCC, lo nn, hi nn]
  | .call_nn nn => [0xCD, lo nn, hi nn] | .adc_A_n n => [0xCE, n] | .rst_08 => [0xCF] | .ret_NC => [0xD0]
  | .pop_DE => [0xD1] | .jp_NC_nn nn => [0xD2, lo nn, hi nn] | .illegal op => [op]
  | .call_NC_nn nn => [0xD4, lo nn, hi nn] | .push_DE => [0xD5] | .sub_n n => [0xD6, n] | .rst_10 => [0xD7]
  | .ret_C => [0xD8] | .reti => [0xD9] | .jp_C_nn nn => [0xDA, lo nn, hi nn] | .call_C_nn nn => [0xDC, lo nn, hi nn]
  | .sbc_A_n n => [0xDE, n] | .rst_18 => [0xDF] | .ldh_mn_A n => [0xE0, n] | .pop_HL => [0xE1] | .ld_mC_A => [0xE2]
  | .push_HL => [0xE5] | .and_n n => [0xE6, n] | .rst_20 => [0xE7] | .add_SP_e e => [0xE8, e] | .jp_HL => [0xE9]
  | .ld_mnn_A nn => [0xEA, lo nn, hi nn] | .xor_n n => [0xEE, n] | .rst_28 => [0xEF] | .ldh_A_mn n => [0xF0, n]
  | .pop_AF => [0xF1] | .ld_A_mC => [0xF2] | .di => [0xF3] | .push_AF => [0xF5] | .or_n n => [0xF6, n]
  | .rst_30 => [0xF7] | .ld_HL_SPe e => [0xF8, e] | .ld_SP_HL => [0xF9] | .ld_A_mnn nn => [0xFA, lo nn, hi nn]
  | .ei => [0xFB] | .cp_n n => [0xFE, n] | .rst_38 => [0xFF] | .rlc_B => [0xCB, 0x00] | .rlc_C => [0xCB, 0x01]
  | .rlc_D => [0xCB, 0x02] | .rlc_E => [0xCB, 0x03] | .rlc_H => [0xCB, 0x04] | .rlc_L => [0xCB, 0x05]
  | .rlc_mHL => [0xCB, 0x06] | .rlc_A => [0xCB, 0x07] | .rrc_B => [0xCB, 0x08] | .rrc_C => [0xCB, 0x09]
  | .rrc_D => [0xCB, 0x0A] | .rrc_E => [0xCB, 0x0B] | .rrc_H => [0xCB, 0x0C] | .rrc_L => [0xCB, 0x0D]
  | .rrc_mHL => [0xCB, 0x0E] | .rrc_A => [0xCB, 0x0F] | .rl_B => [0xCB, 0x10] | .rl_C => [0xCB, 0x11]
  | .rl_D => [0xCB, 0x12] | .rl_E => [0xCB, 0x13] | .rl_H => [0xCB, 0x14] | .rl_L => [0xCB, 0x15]
  | .rl_mHL => [0xCB, 0x16] | .rl_A => [0xCB, 0x17] | .rr_B => [0xCB, 0x18] | .rr_C => [0xCB, 0x19]
  | .rr_D => [0xCB, 0x1A] | .rr_E => [0xCB, 0x1B] | .rr_H => [0xCB, 0x1C] | .rr_L => [0xCB, 0x1D]
  | .rr_mHL => [0xCB, 0x1E] | .rr_A => [0xCB, 0x1F] | .sla_B => [0xCB, 0x20] | .sla_C => [0xCB, 0x21]
  | .sla_D => [0xCB, 0x22] | .sla_E => [0xCB, 0x23] | .sla_H => [0xCB, 0x24] | .sla_L => [0xCB, 0x25]
  | .sla_mHL => [0xCB, 0x26] | .sla_A => [0xCB, 0x27] | .sra_B => [0xCB, 0x28] | .sra_C => [0xCB, 0x29]
  | .sra_D => [0xCB, 0x2A] | .sra_E => [0xCB, 0x2B] | .sra_H => [0xCB, 0x2C] | .sra_L => [0xCB, 0x2D]
  | .sra_mHL => [0xCB, 0x2E] | .sra_A => [0xCB, 0x2F] | .swap_B => [0xCB, 0x30] | .swap_C => [0xCB, 0x31]
  | .swap_D => [0xCB, 0x32] | .swap_E => [0xCB, 0x33] | .swap_H => [0xCB, 0x34] | .swap_L => [0xCB, 0x35]
  | .swap_mHL => [0xCB, 0x36] | .swap_A => [0xCB, 0x37] | .srl_B => [0xCB, 0x38] | .srl_C => [0xCB, 0x39]
  | .srl_D => [0xCB, 0x3A] | .srl_E => [0xCB, 0x3B] | .srl_H => [0xCB, 0x3C] | .srl_L => [0xCB, 0x3D]
  | .srl_mHL => [0xCB, 0x3E] | .srl_A => [0xCB, 0x3F] | .bit_0_B => [0xCB, 0x40] | .bit_0_C => [0xCB, 0x41]
  | .bit_0_D => [0xCB, 0x42] | .bit_0_E => [0xCB, 0x43] | .bit_0_H => [0xCB, 0x44] | .bit_0_L => [0xCB, 0x45]
  | .bit_0_mHL => [0xCB, 0x46] | .bit_0_A => [0xCB, 0x47] | .bit_1_B => [0xCB, 0x48] | .bit_1_C => [0xCB, 0x49]
  | .bit_1_D => [0xCB, 0x4A] | .bit_1_E => [0xCB, 0x4B] | .bit_1_H => [0xCB, 0x4C] | .bit_1_L => [0xCB, 0x4D]
  | .bit_1_mHL => [0xCB, 0x4E] | .bit_1_A => [0xCB, 0x4F] | .bit_2_B => [0xCB, 0x50] | .bit_2_C => [0xCB, 0x51]
  | .bit_2_D => [0xCB, 0x52] | .bit_2_E => [0xCB, 0x53] | .bit_2_H => [0xCB, 0x54] | .bit_2_L => [0xCB, 0x55]
  | .bit_2_mHL => [0xCB, 0x56] | .bit_2_A => [0xCB, 0x57] | .bit_3_B => [0xCB, 0x58] | .bit_3_C => [0xCB, 0x59]
  | .bit_3_D => [0xCB, 0x5A] | .bit_3_E => [0xCB, 0x5B] | .bit_3_H => [0xCB, 0x5C] | .bit_3_L => [0xCB, 0x5D]
  | .bit_3_mHL => [0xCB, 0x5E] | .bit_3_A => [0xCB, 0x5F] | .bit_4_B => [0xCB, 0x60] | .bit_4_C => [0xCB, 0x61]
  | .bit_4_D => [0xCB, 0x62] | .bit_4_E => [0xCB, 0x63] | .bit_4_H => [0xCB, 0x64] | .bit_4_L => [0xCB, 0x65]
  | .bit_4_mHL => [0xCB, 0x66] | .bit_4_A => [0xCB, 0x67] | .bit_5_B => [0xCB, 0x68] | .bit_5_C => [0xCB, 0x69]
  | .bit_5_D => [0xCB, 0x6A] | .bit_5_E => [0xCB, 0x6B] | .bit_5_H => [0xCB, 0x6C] | .bit_5_L => [0xCB, 0x6D]
  | .bit_5_mHL => [0xCB, 0x6E] | .bit_5_A => [0xCB, 0x6F] | .bit_6_B => [0xCB, 0x70] | .bit_6_C => [0xCB, 0x71]
  | .bit_6_D => [0xCB, 0x72] | .bit_6_E => [0xCB, 0x73] | .bit_6_H => [0xCB, 0x74] | .bit_6_L => [0xCB, 0x75]
  | .bit_6_mHL => [0xCB, 0x76] | .bit_6_A => [0xCB, 0x77] | .bit_7_B => [0xCB, 0x78] | .bit_7_C => [0xCB, 0x79]
  | .bit_7_D => [0xCB, 0x7A] | .bit_7_E => [0xCB, 0x7B] | .bit_7_H => [0xCB, 0x7C] | .bit_7_L => [0xCB, 0x7D]
  | .bit_7_mHL => [0xCB, 0x7E] | .bit_7_A => [0xCB, 0x7F] | .res_0_B => [0xCB, 0x80] | .res_0_C => [0xCB, 0x81]
  | .res_0_D => [0xCB, 0x82] | .res_0_E => [0xCB, 0x83] | .res_0_H => [0xCB, 0x84] | .res_0_L => [0xCB, 0x85]
  | .res_0_mHL => [0xCB, 0x86] | .res_0_A => [0xCB, 0x87] | .res_1_B => [0xCB, 0x88] | .res_1_C => [0xCB, 0x89]
  | .res_1_D => [0xCB, 0x8A] | .res_1_E => [0xCB, 0x8B] | .res_1_H => [0xCB, 0x8C] | .res_1_L => [0xCB, 0x8D]
  | .res_1_mHL => [0xCB, 0x8E] | .res_1_A => [0xCB, 0x8F] | .res_2_B => [0xCB, 0x90] | .res_2_C => [0xCB, 0x91]
  | .res_2_D => [0xCB, 0x92] | .res_2_E => [0xCB, 0x93] | .res_2_H => [0xCB, 0x94] | .res_2_L => [0xCB, 0x95]
  | .res_2_mHL => [0xCB, 0x96] | .res_2_A => [0xCB, 0x97] | .res_3_B => [0xCB, 0x98] | .res_3_C => [0xCB, 0x99]
  | .res_3_D => [0xCB, 0x9A] | .res_3_E => [0xCB, 0x9B] | .res_3_H => [0xCB, 0x9C] | .res_3_L => [0xCB, 0x9D]
  | .res_3_mHL => [0xCB, 0x9E] | .res_3_A => [0xCB, 0x9F] | .res_4_B => [0xCB, 0xA0] | .res_4_C => [0xCB, 0xA1]
  | .res_4_D => [0xCB, 0xA2] | .res_4_E => [0xCB, 0xA3] | .res_4_H => [0xCB, 0xA4] | .res_4_L => [0xCB, 0xA5]
  | .res_4_mHL => [0xCB, 0xA6] | .res_4_A => [0xCB, 0xA7] | .res_5_B => [0xCB, 0xA8] | .res_5_C => [0xCB, 0xA9]
  | .res_5_D => [0xCB, 0xAA] | .res_5_E => [0xCB, 0xAB] | .res_5_H => [0xCB, 0xAC] | .res_5_L => [0xCB, 0xAD]
  | .res_5_mHL => [0xCB, 0xAE] | .res_5_A => [0xCB, 0xAF] | .res_6_B => [0xCB, 0xB0] | .res_6_C => [0xCB, 0xB1]
  | .res_6_D => [0xCB, 0xB2] | .res_6_E => [0xCB, 0xB3] | .res_6_H => [0xCB, 0xB4] | .res_6_L => [0xCB, 0xB5]
  | .res_6_mHL => [0xCB, 0xB6] | .res_6_A => [0xCB, 0xB7] | .res_7_B => [0xCB, 0xB8] | .res_7_C => [0xCB, 0xB9]
  | .res_7_D => [0xCB, 0xBA] | .res_7_E => [0xCB, 0xBB] | .res_7_H => [0xCB, 0xBC] | .res_7_L => [0xCB, 0xBD]
  | .res_7_mHL => [0xCB, 0xBE] | .res_7_A => [0xCB, 0xBF] | .set_0_B => [0xCB, 0xC0] | .set_0_C => [0xCB, 0xC1]
  | .set_0_D => [0xCB, 0xC2] | .set_0_E => [0xCB, 0xC3] | .set_0_H => [0xCB, 0xC4] | .set_0_L => [0xCB, 0xC5]
  | .set_0_mHL => [0xCB, 0xC6] | .set_0_A => [0xCB, 0xC7] | .set_1_B => [0xCB, 0xC8] | .set_1_C => [0xCB, 0xC9]
  | .set_1_D => [0xCB, 0xCA] | .set_1_E => [0xCB, 0xCB] | .set_1_H => [0xCB, 0xCC] | .set_1_L => [0xCB, 0xCD]
  | .set_1_mHL => [0xCB, 0xCE] | .set_1_A => [0xCB, 0xCF] | .set_2_B => [0xCB, 0xD0] | .set_2_C => [0xCB, 0xD1]
  | .set_2_D => [0xCB, 0xD2] | .set_2_E => [0xCB, 0xD3] | .set_2_H => [0xCB, 0xD4] | .set_2_L => [0xCB, 0xD5]
  | .set_2_mHL => [0xCB, 0xD6] | .set_2_A => [0xCB, 0xD7] | .set_3_B => [0xCB, 0xD8] | .set_3_C => [0xCB, 0xD9]
  | .set_3_D => [0xCB, 0xDA] | .set_3_E => [0xCB, 0xDB] | .set_3_H => [0xCB, 0xDC] | .set_3_L => [0xCB, 0xDD]
  | .set_3_mHL => [0xCB, 0xDE] | .set_3_A => [0xCB, 0xDF] | .set_4_B => [0xCB, 0xE0] | .set_4_C => [0xCB, 0xE1]
  | .set_4_D => [0xCB, 0xE2] | .set_4_E => [0xCB, 0xE3] | .set_4_H => [0xCB, 0xE4] | .set_4_L => [0xCB, 0xE5]
  | .set_4_mHL => [0xCB, 0xE6] | .set_4_A => [0xCB, 0xE7] | .set_5_B => [0xCB, 0xE8] | .set_5_C => [0xCB, 0xE9]
  | .set_5_D => [0xCB, 0xEA] | .set_5_E => [0xCB, 0xEB] | .set_5_H => [0xCB, 0xEC] | .set_5_L => [0xCB, 0xED]
  | .set_5_mHL => [0xCB, 0xEE] | .set_5_A => [0xCB, 0xEF] | .set_6_B => [0xCB, 0xF0] | .set_6_C => [0xCB, 0xF1]
  | .set_6_D => [0xCB, 0xF2] | .set_6_E => [0xCB, 0xF3] | .set_6_H => [0xCB, 0xF4] | .set_6_L => [0xCB, 0xF5]
  | .set_6_mHL => [0xCB, 0xF6] | .set_6_A => [0xCB, 0xF7] | .set_7_B => [0xCB, 0xF8] | .set_7_C => [0xCB, 0xF9]
  | .set_7_D => [0xCB, 0xFA] | .set_7_E => [0xCB, 0xFB] | .set_7_H => [0xCB, 0xFC] | .set_7_L => [0xCB, 0xFD]
  | .set_7_mHL => [0xCB, 0xFE] | .set_7_A => [0xCB, 0xFF]

/-! ### Words numbered as the opcode table numbers them -/

/-- The three bytes, at rising addresses, of a word of spec/opcode_table.json, zeros above its bits. A base row's first
byte is its bits 7 to 0. A prefixed row is the composed opcode 0xCBxx with the prefix in bits 15 to 8 (R140), and the
prefix byte stands at the lower address (R95) (log 7). -/
def tableBytes (nbits w : Nat) : List Byte :=
  if 8 < nbits ∧ w / 256 = 0xCB then [0xCB, BitVec.ofNat 8 w, 0]
  else [BitVec.ofNat 8 w, BitVec.ofNat 8 (w / 256), BitVec.ofNat 8 (w / 65536)]

/-- The instruction the decoder reads from a table row's word: from the row's own bytes if they hold one, else with the
zero bytes the row's operands stand for (log 7). -/
def decodeTableWord (nbits w : Nat) : Option Instr :=
  match decode ((tableBytes nbits w).take ((nbits + 7) / 8)) with
  | .ok i _ => some i
  | .reject _ =>
    match decode (tableBytes nbits w) with
    | .ok i _ => some i
    | .reject _ => none

end Sys2Proof
end

