-- ==== Sys2Proof/Machine/Flags.lean ====
section
/-! DEFINITION. The four flags and the ALU primitives of 40_alu_primitives.md, as pure functions. A primitive that does
not write a flag takes the old flags and keeps it (R150). -/

namespace Sys2Proof.Machine

/-- The flags of F (R21). -/
structure Flags where
  z : Bool
  n : Bool
  h : Bool
  c : Bool
  deriving DecidableEq, Repr

/-- The flags in a byte: Z bit 7, N bit 6, H bit 5, C bit 4 (R21). -/
def unpackFlags (f : Byte) : Flags :=
  { z := f.getLsbD 7, n := f.getLsbD 6, h := f.getLsbD 5, c := f.getLsbD 4 }

/-- The byte that holds the flags; bits 3 to 0 are zero (R21). -/
def packFlags (x : Flags) : Byte :=
  (bitByte x.z <<< 7) ||| (bitByte x.n <<< 6) ||| (bitByte x.h <<< 5) ||| (bitByte x.c <<< 4)

/-! ### Addition and subtraction -/

/-- R151. -/
def add8 (a b : Byte) : Byte × Flags :=
  (a + b, { z := a + b == 0, n := false, h := decide (nibble a + nibble b > 0xF), c := decide (a.toNat + b.toNat > 0xFF) })

/-- R152: the carry-in counts in the nibble sum and in the full sum. -/
def adc8 (a b : Byte) (c : Bool) : Byte × Flags :=
  (a + b + bitByte c,
    { z := a + b + bitByte c == 0, n := false, h := decide (nibble a + nibble b + c.toNat > 0xF),
      c := decide (a.toNat + b.toNat + c.toNat > 0xFF) })

/-- R153: C is the borrow. -/
def sub8 (a b : Byte) : Byte × Flags :=
  (a - b, { z := a - b == 0, n := true, h := decide (nibble a < nibble b), c := decide (a.toNat < b.toNat) })

/-- R154: the comparisons are on unbounded integers. -/
def sbc8 (a b : Byte) (c : Bool) : Byte × Flags :=
  (a - b - bitByte c,
    { z := a - b - bitByte c == 0, n := true, h := decide (nibble a < nibble b + c.toNat),
      c := decide (a.toNat < b.toNat + c.toNat) })

/-- R174: the flags of `sub8`. -/
def cp8 (a b : Byte) : Flags := (sub8 a b).2

/-! ### Logic -/

/-- R155. -/
def and8 (a b : Byte) : Byte × Flags := (a &&& b, { z := a &&& b == 0, n := false, h := true, c := false })

/-- R156. -/
def or8 (a b : Byte) : Byte × Flags := (a ||| b, { z := a ||| b == 0, n := false, h := false, c := false })

/-- R157. -/
def xor8 (a b : Byte) : Byte × Flags := (a ^^^ b, { z := a ^^^ b == 0, n := false, h := false, c := false })

/-! ### Increment and decrement -/

/-- R158: C is not written. -/
def inc8 (a : Byte) (old : Flags) : Byte × Flags :=
  (a + 1, { z := a + 1 == 0, n := false, h := decide (nibble a = 0xF), c := old.c })

/-- R159: C is not written. -/
def dec8 (a : Byte) (old : Flags) : Byte × Flags :=
  (a - 1, { z := a - 1 == 0, n := true, h := decide (nibble a = 0x0), c := old.c })

/-! ### Rotates and shifts -/

/-- The flags of every rotate and shift: Z from the result, N and H zero, C the bit shifted out. -/
def shiftFlags (r : Byte) (out : Bool) : Flags := { z := r == 0, n := false, h := false, c := out }

/-- A rotate or shift with result `r` and `out` shifted out. -/
def shifted (r : Byte) (out : Bool) : Byte × Flags := (r, shiftFlags r out)

/-- R160. -/
def rlc8 (a : Byte) : Byte × Flags := shifted ((a <<< 1) ||| bitByte (a.getLsbD 7)) (a.getLsbD 7)

/-- R161. -/
def rrc8 (a : Byte) : Byte × Flags := shifted ((a >>> 1) ||| (bitByte (a.getLsbD 0) <<< 7)) (a.getLsbD 0)

/-- R162. -/
def rl8 (a : Byte) (c : Bool) : Byte × Flags := shifted ((a <<< 1) ||| bitByte c) (a.getLsbD 7)

/-- R163. -/
def rr8 (a : Byte) (c : Bool) : Byte × Flags := shifted ((a >>> 1) ||| (bitByte c <<< 7)) (a.getLsbD 0)

/-- R164. -/
def sla8 (a : Byte) : Byte × Flags := shifted (a <<< 1) (a.getLsbD 7)

/-- R165: bit 7 is kept. -/
def sra8 (a : Byte) : Byte × Flags := shifted ((a >>> 1) ||| (a &&& 0x80)) (a.getLsbD 0)

/-- R166. -/
def srl8 (a : Byte) : Byte × Flags := shifted (a >>> 1) (a.getLsbD 0)

/-- R167: C is cleared. -/
def swap8 (a : Byte) : Byte × Flags := shifted (a.extractLsb' 0 4 ++ a.extractLsb' 4 4) false

/-- The primitive of `rot(y)` (R133). -/
def rotApply (op : RotOp) (a : Byte) (c : Bool) : Byte × Flags :=
  match op with
  | .rlc => rlc8 a
  | .rrc => rrc8 a
  | .rl => rl8 a c
  | .rr => rr8 a c
  | .sla => sla8 a
  | .sra => sra8 a
  | .swap => swap8 a
  | .srl => srl8 a

/-! ### Bit operations -/

/-- R168: C is not written. -/
def bit8 (n : Nat) (a : Byte) (old : Flags) : Flags := { z := !a.getLsbD n, n := false, h := true, c := old.c }

/-- R169. -/
def res8 (n : Nat) (a : Byte) : Byte := a &&& ~~~((1 : Byte) <<< n)

/-- R170. -/
def set8 (n : Nat) (a : Byte) : Byte := a ||| ((1 : Byte) <<< n)

/-! ### 16-bit primitives -/

/-- R171: Z is not written. -/
def add16 (h w : Word) (old : Flags) : Word × Flags :=
  (h + w,
    { z := old.z, n := false, h := decide ((h &&& 0x0FFF).toNat + (w &&& 0x0FFF).toNat > 0x0FFF),
      c := decide (h.toNat + w.toNat > 0xFFFF) })

/-- R172: the flags are those of the low byte and the raw byte `e`. -/
def addsp (s : Word) (e : Byte) : Word × Flags :=
  (s + sext16 e,
    { z := false, n := false, h := decide ((s &&& 0x000F).toNat + nibble e > 0x0F),
      c := decide ((s &&& 0x00FF).toNat + e.toNat > 0xFF) })

/-! ### Decimal adjust -/

/-- The high correction after an addition is made: `c = 1 or a > 0x99` (R173). -/
def daaHigh (a : Byte) (old : Flags) : Bool := old.c || decide (a.toNat > 0x99)

/-- The low correction after an addition is made: `h = 1 or (a & 0x0F) > 0x09` (R173). -/
def daaLow (a : Byte) (old : Flags) : Bool := old.h || decide (nibble a > 0x09)

/-- `adj_hi + adj_lo` (R173). -/
def daaAdjust (high low : Bool) : Byte := (if high then 0x60 else 0x00) + (if low then 0x06 else 0x00)

/-- R173: N is not written. -/
def daa8 (a : Byte) (old : Flags) : Byte × Flags :=
  if old.n then
    (a - daaAdjust old.c old.h, { z := a - daaAdjust old.c old.h == 0, n := old.n, h := false, c := old.c })
  else
    (a + daaAdjust (daaHigh a old) (daaLow a old),
      { z := a + daaAdjust (daaHigh a old) (daaLow a old) == 0, n := old.n, h := false, c := daaHigh a old })

/-! ### The eight two-operand operations -/

/-- The result and flags of `alu(y) A,x` (R220). CP leaves A (R242). -/
def aluApply (op : AluOp) (a b : Byte) (c : Bool) : Byte × Flags :=
  match op with
  | .add => add8 a b
  | .adc => adc8 a b c
  | .sub => sub8 a b
  | .sbc => sbc8 a b c
  | .and => and8 a b
  | .xor => xor8 a b
  | .or => or8 a b
  | .cp => (a, cp8 a b)

end Sys2Proof.Machine
end

