-- ==== Sys2Proof/Config.lean ====
section
/-! DEFINITION. What a launch fixes: the parameters of R7 to R12. No step changes them. The model leaves no value
uninterpreted: the spec decides every value it names (92_eei_decisions.md), and RenderLine is defined (log 14). -/

namespace Sys2Proof

/-- The parameters a run keeps: BOOT (R8), BUS_STRICT (R10), EXT_RAM (R11). ROM (R7) is the part of memory below 0x8000
(log 4). They stand in State so that one step function covers every launch (log 5). -/
structure Params where
  /-- BOOT: absent, or 256 bytes at 0x00 to 0xFF (R8). -/
  boot      : Option Memory
  /-- BUS_STRICT: an unmapped access faults (R10, R94). -/
  busStrict : Bool
  /-- EXT_RAM: 0xA000 to 0xBFFF is plain RAM (R11, R79). -/
  extRam    : Bool
  deriving DecidableEq, Repr

/-- The arguments of `Reset` (R431): the parameters and everything the spec leaves to the launch: the ROM image (R7),
the RAM contents (D32), the registers of RESET (R12, R60). The defaults are those of `State.reset` (log 1, 3, 4, 6). -/
structure Launch where
  /-- The cartridge image (below 0x8000) and the launch's RAM contents, each byte at its own bus address. -/
  mem       : Memory := []
  boot      : Option Memory := none
  skipBoot  : Bool := false
  busStrict : Bool := false
  extRam    : Bool := false
  a : Byte := 0
  f : Byte := 0
  b : Byte := 0
  c : Byte := 0
  d : Byte := 0
  e : Byte := 0
  h : Byte := 0
  l : Byte := 0
  sp : Word := 0
  deriving DecidableEq, Repr

end Sys2Proof
end

