-- ==== Sys2Proof/Machine/State.lean ====
section
/-! DEFINITION. The state of the block (10_state.md), the reasons a step can stop, and the reset state. Fields stand by
unit, in the parts of R1. Reset values the spec leaves to RESET or to the launch are in log 1 to 4. -/

namespace Sys2Proof.Machine

/-- The register file: eight 8-bit registers (R20), SP (R24) and pc (R26). BC, DE, HL and AF are views (R22, R23). -/
structure Regs where
  a : Byte
  /-- Flags Z N H C in bits 7 to 4; bits 3 to 0 are zero in every reachable state (R21). -/
  f : Byte
  b : Byte
  c : Byte
  d : Byte
  e : Byte
  h : Byte
  l : Byte
  sp : Word
  pc : Word
  deriving DecidableEq, Repr

/-- One slot of `ime_pipe` (R47). -/
inductive ImeReq where
  | none | set | clear
  deriving DecidableEq, Repr

/-- The interrupt controller: the master enable (R46), its two-slot delay (R47), IF (R36) and IE (R37). -/
structure IntCtl where
  ime : Bool
  /-- `ime_pipe[0]`: applied at the next retirement (R376). -/
  pipe0 : ImeReq
  /-- `ime_pipe[1]`: written by DI and EI (R334, R335). -/
  pipe1 : ImeReq
  /-- The five stored bits of IF (R36). -/
  if_ : BitVec 5
  ie : Byte
  deriving DecidableEq, Repr

/-- The timer (R380): the 16-bit counter whose high byte is DIV (R51), TIMA, TMA and the three stored bits of TAC. -/
structure Timer where
  div : BitVec 16
  tima : Byte
  tma : Byte
  tac : BitVec 3
  deriving DecidableEq, Repr

/-- The keys of the joypad (R14). -/
inductive Key where
  | up | down | left | right | a | b | select | start
  deriving DecidableEq, Repr

/-- The set of keys held (R53), one field per key. -/
structure Keys where
  up : Bool
  down : Bool
  left : Bool
  right : Bool
  a : Bool
  b : Bool
  select : Bool
  start : Bool
  deriving DecidableEq, Repr

/-- The joypad: the two stored select bits of P1 (R31) and the keys held (R53). -/
structure Joypad where
  p1Sel : BitVec 2
  keys : Keys
  deriving DecidableEq, Repr

/-- `ppu_state` (R52, R400). -/
inductive PpuMode where
  | oamSearch | pixelTransfer | hBlank | vBlank
  deriving DecidableEq, Repr

/-- The PPU: its registers (R38 to R45) and its scanline position (R52). -/
structure Ppu where
  lcdc : Byte
  /-- STAT bits 6 to 3 (R39). -/
  statSel : BitVec 4
  scy : Byte
  scx : Byte
  /-- The line last published (R41). -/
  ly : Byte
  lyc : Byte
  dma : Byte
  bgp : Byte
  obp0 : Byte
  obp1 : Byte
  wy : Byte
  wx : Byte
  /-- `ppu_state`. -/
  mode : PpuMode
  /-- `ppu_dot`: the cycles already spent in the mode, or in the line of vertical blank. -/
  dot : Nat
  /-- `ppu_line`: the PPU's own line counter, 0 to 153. -/
  line : Nat
  deriving DecidableEq, Repr

/-- `run_state` (R48). -/
inductive RunState where
  | running | halted | stopped
  deriving DecidableEq, Repr

/-- The direction of a bus access (R352). -/
inductive AccessKind where
  | read | write
  deriving DecidableEq, Repr

/-- The faults of the block (R50, R350): both are final. -/
inductive Fault where
  /-- An unassigned opcode: raised by `illegal` (R337, R351). Safe: the spec says that the run ends. -/
  | decodeFailure (pc0 : Word) (opcode : Byte)
  /-- An access to an address with no binding while BUS_STRICT: raised by the bus (R94, R352). Safe: the spec says that
  the run ends. -/
  | busUnmapped (addr : Word) (kind : AccessKind)
  deriving DecidableEq, Repr

/-- The refusals. No meaning of this model refuses. -/
inductive Refusal where
  /-- An instruction without a meaning, by its mnemonic: raised by no arm of `exec` now. Safe. -/
  | notModelled (mnemonic : String)
  deriving DecidableEq, Repr

/-- A host input event (R14, R54). -/
inductive HostEvent where
  | keyDown (k : Key)
  | keyUp (k : Key)
  deriving DecidableEq, Repr

/-- An event at an output port (R14, R411). -/
inductive Output where
  /-- `draw_line(y, row)`: 160 pixel values 0 to 3. -/
  | drawLine (y : Nat) (row : List (BitVec 2))
  | frameComplete
  | blank
  deriving DecidableEq, Repr

/-- The state of the block. -/
structure State where
  regs : Regs
  int : IntCtl
  timer : Timer
  joy : Joypad
  ppu : Ppu
  runState : RunState
  /-- `boot_overlay` (R49). -/
  bootOverlay : Bool
  /-- `fault` (R50): once set no step is defined (log 10). -/
  fault : Option Fault
  /-- Events posted and not yet drained, oldest first (R54). -/
  hostQueue : List HostEvent
  /-- The sum of the cycles of every step so far (R55). -/
  clock : Nat
  /-- The cycle count of the current step; after the step, the value `Step` returned (R14, R18, log 11). -/
  cycles : Nat
  /-- Every output emitted so far, oldest first (R411, log 11). -/
  outputs : List Output
  /-- Every storage cell at its own bus address: the ROM image below 0x8000 (R7), video RAM, external RAM, work RAM, OAM
  and high RAM (R56). -/
  mem : Memory
  /-- The parameters of the launch; no step changes them (log 5). -/
  params : Params
  deriving DecidableEq, Repr

/-- What a meaning answers. -/
abbrev Result := Host.Outcome State Fault Refusal

/-- No key held. -/
def Keys.empty : Keys := ⟨false, false, false, false, false, false, false, false⟩

/-- `Reset` (R431, R433): every element at the value of R60, or of R61 with SKIP_BOOT. -/
def State.resetWith (p : Launch) : State where
  regs :=
    if p.skipBoot then
      { a := 0x01, f := 0xB0, b := 0x00, c := 0x13, d := 0x00, e := 0xD8, h := 0x01, l := 0x4D, sp := 0xFFFE, pc := 0x0100 }
    else
      { a := p.a, f := p.f &&& 0xF0, b := p.b, c := p.c, d := p.d, e := p.e, h := p.h, l := p.l, sp := p.sp, pc := 0x0000 }
  int :=
    { ime := false, pipe0 := .none, pipe1 := .none, if_ := if p.skipBoot then 0b00001 else 0b00000, ie := 0x00 }
  timer := { div := if p.skipBoot then 0xABCC else 0x0000, tima := 0x00, tma := 0x00, tac := 0b000 }
  joy := { p1Sel := 0b00, keys := Keys.empty }
  ppu :=
    { lcdc := if p.skipBoot then 0x91 else 0x00, statSel := 0b0000, scy := 0x00, scx := 0x00, ly := 0x00, lyc := 0x00,
      dma := if p.skipBoot then 0xFF else 0x00, bgp := if p.skipBoot then 0xFC else 0x00,
      obp0 := if p.skipBoot then 0xFF else 0x00, obp1 := if p.skipBoot then 0xFF else 0x00, wy := 0x00, wx := 0x00,
      mode := .oamSearch, dot := 0, line := 0 }
  runState := .running
  bootOverlay := p.boot.isSome && !p.skipBoot
  fault := none
  hostQueue := []
  clock := 0
  cycles := 0
  outputs := []
  mem := p.mem
  params := { boot := p.boot, busStrict := p.busStrict, extRam := p.extRam }

/-- The machine right after reset: the launch of the defaults of `Launch`, a cold reset with no boot ROM, BUS_STRICT and
EXT_RAM false, RESET all zero and memory with nothing listed (log 1, 3, 4, 6). -/
def State.reset : State := State.resetWith {}

end Sys2Proof.Machine
end

