-- ==== Sys2Proof/Machine/Registers.lean ====
section
/-! DEFINITION. Reading and writing registers, pairs and flags: every access goes through these (R16, R20 to R26). -/

namespace Sys2Proof.Machine

/-- `x[r]` (R16). -/
def State.reg (s : State) : Reg8 → Byte
  | .b => s.regs.b
  | .c => s.regs.c
  | .d => s.regs.d
  | .e => s.regs.e
  | .h => s.regs.h
  | .l => s.regs.l
  | .a => s.regs.a

/-- `x[r] <- v` (R16). -/
def State.setReg (s : State) (r : Reg8) (v : Byte) : State :=
  match r with
  | .b => { s with regs := { s.regs with b := v } }
  | .c => { s with regs := { s.regs with c := v } }
  | .d => { s with regs := { s.regs with d := v } }
  | .e => { s with regs := { s.regs with e := v } }
  | .h => { s with regs := { s.regs with h := v } }
  | .l => { s with regs := { s.regs with l := v } }
  | .a => { s with regs := { s.regs with a := v } }

/-- Reads of F mask to 0xF0 (R21). -/
def State.getF (s : State) : Byte := s.regs.f &&& 0xF0

/-- Every write of F as a whole stores `v & 0xF0` (R21). -/
def State.setF (s : State) (v : Byte) : State := { s with regs := { s.regs with f := v &&& 0xF0 } }

/-- The flags (R16). -/
def State.flags (s : State) : Flags := unpackFlags s.regs.f

/-- Write the four flags (R30). -/
def State.setFlags (s : State) (x : Flags) : State := { s with regs := { s.regs with f := packFlags x } }

/-- `xx[BC]` (R22). -/
def State.bc (s : State) : Word := pair s.regs.b s.regs.c

/-- `xx[DE]` (R22). -/
def State.de (s : State) : Word := pair s.regs.d s.regs.e

/-- `xx[HL]` (R22). -/
def State.hl (s : State) : Word := pair s.regs.h s.regs.l

/-- `xx[AF]` (R23). -/
def State.af (s : State) : Word := pair s.regs.a s.getF

/-- `xx[HL] <- v` (R22). -/
def State.setHL (s : State) (v : Word) : State := { s with regs := { s.regs with h := hi v, l := lo v } }

/-- `xx[rr(p)]` (R22, R125). -/
def State.reg16 (s : State) : Reg16 → Word
  | .bc => s.bc
  | .de => s.de
  | .hl => s.hl
  | .sp => s.regs.sp

/-- `xx[rr(p)] <- v` (R22, R125). -/
def State.setReg16 (s : State) (p : Reg16) (v : Word) : State :=
  match p with
  | .bc => { s with regs := { s.regs with b := hi v, c := lo v } }
  | .de => { s with regs := { s.regs with d := hi v, e := lo v } }
  | .hl => s.setHL v
  | .sp => { s with regs := { s.regs with sp := v } }

/-- `xx[rr2(p)]` (R23, R125). -/
def State.stkReg (s : State) : StkReg → Word
  | .bc => s.bc
  | .de => s.de
  | .hl => s.hl
  | .af => s.af

/-- `xx[rr2(p)] <- v`; AF masks the low nibble of F (R23, R125). -/
def State.setStkReg (s : State) (p : StkReg) (v : Word) : State :=
  match p with
  | .bc => s.setReg16 .bc v
  | .de => s.setReg16 .de v
  | .hl => s.setHL v
  | .af => (s.setReg .a (hi v)).setF (lo v)

/-- `SP <- v` (R24). -/
def State.setSP (s : State) (v : Word) : State := { s with regs := { s.regs with sp := v } }

/-- `pc <- v` (R26). -/
def State.setPC (s : State) (v : Word) : State := { s with regs := { s.regs with pc := v } }

/-- `cycles <- cycles + n` (R18). -/
def State.charge (s : State) (n : Nat) : State := { s with cycles := s.cycles + n }

/-- `run_state <- r` (R48). -/
def State.setRun (s : State) (r : RunState) : State := { s with runState := r }

/-- Emit an output (R411). -/
def State.emit (s : State) (o : Output) : State := { s with outputs := s.outputs ++ [o] }

/-- A condition holds (R126). -/
def State.holds (s : State) : Cond → Bool
  | .nz => !s.flags.z
  | .z => s.flags.z
  | .nc => !s.flags.c
  | .c => s.flags.c

end Sys2Proof.Machine
end

