-- ==== Sys2Proof/Machine/Interrupts.lean ====
section
/-! DEFINITION. The interrupt request port (R89), what is pending (R377) and how the line is chosen (R370, R372). -/

namespace Sys2Proof.Machine

/-- `SetInterrupt(i)`: set one bit of IF, keep the other four (R89). -/
def State.setInterrupt (s : State) (i : Nat) : State :=
  { s with int := { s.int with if_ := s.int.if_ ||| ((1 : BitVec 5) <<< i) } }

/-- `ResetInterrupt(i)`: clear one bit of IF, keep the other four (R89). -/
def State.resetInterrupt (s : State) (i : Nat) : State :=
  { s with int := { s.int with if_ := s.int.if_ &&& ~~~((1 : BitVec 5) <<< i) } }

/-- `ie[4:0] & if_` (R372). -/
def State.pending (s : State) : BitVec 5 := s.int.ie.extractLsb' 0 5 &&& s.int.if_

/-- The lowest-numbered bit set: priority is fixed (R370, R372). -/
def leastLine (p : BitVec 5) : Option Nat :=
  if p.getLsbD 0 then some 0
  else if p.getLsbD 1 then some 1
  else if p.getLsbD 2 then some 2
  else if p.getLsbD 3 then some 3
  else if p.getLsbD 4 then some 4
  else none

/-- The vector of line `i`: 0x0040 + 8 * i (R370). -/
def vector (i : Nat) : Word := BitVec.ofNat 16 (0x0040 + 8 * i)

/-- `ime <- b` (R46). -/
def State.setIme (s : State) (b : Bool) : State := { s with int := { s.int with ime := b } }

/-- `ime_pipe[1] <- r`: what DI and EI write (R47, R334, R335). -/
def State.setPipe1 (s : State) (r : ImeReq) : State := { s with int := { s.int with pipe1 := r } }

/-- The value of `ime` when a request leaves slot 0 (R376). -/
def ImeReq.apply (r : ImeReq) (ime : Bool) : Bool :=
  match r with
  | .none => ime
  | .set => true
  | .clear => false

/-- `ImeRetire()` (R376): apply slot 0, move slot 1 into it, empty slot 1. -/
def State.imeRetire (s : State) : State :=
  { s with
    int := { s.int with ime := s.int.pipe0.apply s.int.ime, pipe0 := s.int.pipe1, pipe1 := .none } }

end Sys2Proof.Machine
end

