-- ==== Sys2Proof/Machine/Joypad.lean ====
section
/-! DEFINITION. The joypad: the keys held, the nibble a P1 read shows (R396) and the host events (R54, R395). -/

namespace Sys2Proof.Machine

/-- A key is held (R53). -/
def Keys.held (k : Keys) : Key → Bool
  | .up => k.up
  | .down => k.down
  | .left => k.left
  | .right => k.right
  | .a => k.a
  | .b => k.b
  | .select => k.select
  | .start => k.start

/-- Put a key into the set or take it out (R53). -/
def Keys.put (k : Keys) (x : Key) (v : Bool) : Keys :=
  match x with
  | .up => { k with up := v }
  | .down => { k with down := v }
  | .left => { k with left := v }
  | .right => { k with right := v }
  | .a => { k with a := v }
  | .b => { k with b := v }
  | .select => { k with select := v }
  | .start => { k with start := v }

/-- Four keys as a nibble, bit 0 first: a held key clears its bit (R396). -/
def rowNibble (k0 k1 k2 k3 : Bool) : BitVec 4 :=
  ~~~(((if k0 then 1 else 0) : BitVec 4) ||| (if k1 then 2 else 0) ||| (if k2 then 4 else 0) ||| (if k3 then 8 else 0))

/-- `JoyNibble()` (R396): `p1_sel[0] = 0` selects the direction row, `p1_sel[1] = 0` the button row. -/
def joyNibble (j : Joypad) : BitVec 4 :=
  (if j.p1Sel.getLsbD 0 then 0b1111 else rowNibble j.keys.right j.keys.left j.keys.up j.keys.down) &&&
  (if j.p1Sel.getLsbD 1 then 0b1111 else rowNibble j.keys.a j.keys.b j.keys.select j.keys.start)

/-- The set of keys held becomes `k` (R53). -/
def State.setKeys (s : State) (k : Keys) : State := { s with joy := { s.joy with keys := k } }

/-- A key goes from not held to held: request line 4 if IE bit 4 is set, leave `Stopped` (R361, R395). -/
def State.keyPressed (s : State) (k : Key) : State :=
  let s1 := s.setKeys (s.joy.keys.put k true)
  let s2 := if s.int.ie.getLsbD 4 then s1.setInterrupt 4 else s1
  if s.runState = .stopped then s2.setRun .running else s2

/-- One drained event (R395): a repeated key-down of a held key is no edge. -/
def State.hostEvent (s : State) : HostEvent → State
  | .keyDown k => if s.joy.keys.held k then s else s.keyPressed k
  | .keyUp k => s.setKeys (s.joy.keys.put k false)

/-- `host_queue <- q` (R54). -/
def State.setQueue (s : State) (q : List HostEvent) : State := { s with hostQueue := q }

/-- `DrainHostEvents()` (R395): the events in the order posted, then an empty queue. -/
def State.drain (s : State) : State := (s.hostQueue.foldl State.hostEvent s).setQueue []

/-- What the host does between steps: it appends events to the queue (R54, log 12). -/
def State.hostPost (s : State) (es : List HostEvent) : State := s.setQueue (s.hostQueue ++ es)

end Sys2Proof.Machine
end

