-- ==== Sys2Proof/Machine/Render.lean ====
section
/-! DEFINITION. `RenderLine` (R414 to R417): the row of 160 pixel values of one line. Reads of video RAM and OAM are
direct, not through the bus (R103). The detail is the spec's from general knowledge (D26, log 14). -/

namespace Sys2Proof.Machine

/-- A colour index 0 to 3 from bit `b` of the two planes: `hi[b] ++ lo[b]` (R415, R417). -/
def planeColour (l h : Byte) (b : Nat) : Nat := 2 * (h.getLsbD b).toNat + (l.getLsbD b).toNat

/-- `pal[2*ci + 1 : 2*ci]` (R44, R414). -/
def shade (pal : Byte) (ci : Nat) : BitVec 2 := pal.extractLsb' (2 * ci) 2

/-! ### Background and window -/

/-- The first byte of tile `t`: the set of LCDC bit 4 (R415). -/
def tileBase (lcdc : Byte) (t : Nat) : Nat :=
  if lcdc.getLsbD 4 then 0x8000 + 16 * t
  else if t < 128 then 0x9000 + 16 * t
  else 0x9000 + 16 * t - 0x1000

/-- `TileColour(map, px, py)` (R415). -/
def tileColour (s : State) (map px py : Nat) : Nat :=
  let t := (s.mem.get (map + 32 * (py / 8) + px / 8)).toNat
  let row := tileBase s.ppu.lcdc t + 2 * (py % 8)
  planeColour (s.mem.get row) (s.mem.get (row + 1)) (7 - px % 8)

/-- The tile map a bit of LCDC selects (R38, R415, R416). -/
def mapBase (b : Bool) : Nat := if b then 0x9C00 else 0x9800

/-- `BgColour(x, y)` (R415). -/
def bgColour (s : State) (x y : Nat) : Nat :=
  if s.ppu.lcdc.getLsbD 0 then
    tileColour s (mapBase (s.ppu.lcdc.getLsbD 3)) ((x + s.ppu.scx.toNat) % 256) ((y + s.ppu.scy.toNat) % 256)
  else 0

/-- `WindowCovers(x, y)` (R416). -/
def windowCovers (s : State) (x y : Nat) : Bool :=
  s.ppu.lcdc.getLsbD 5 && s.ppu.lcdc.getLsbD 0 && decide (s.ppu.wy.toNat ≤ y) && decide (s.ppu.wx.toNat ≤ x + 7)

/-- `WinColour(x, y)` (R416). -/
def winColour (s : State) (x y : Nat) : Nat :=
  tileColour s (mapBase (s.ppu.lcdc.getLsbD 6)) (x + 7 - s.ppu.wx.toNat) (y - s.ppu.wy.toNat)

/-! ### Sprites -/

/-- One of the 40 records of OAM (R417). -/
structure Sprite where
  /-- Top edge plus 16. -/
  y : Nat
  /-- Left edge plus 8. -/
  x : Nat
  tile : Byte
  attr : Byte
  deriving DecidableEq, Repr

/-- Record `k` of OAM (R417). -/
def sprite (s : State) (k : Nat) : Sprite :=
  { y := (s.mem.get (0xFE00 + 4 * k)).toNat, x := (s.mem.get (0xFE00 + 4 * k + 1)).toNat,
    tile := s.mem.get (0xFE00 + 4 * k + 2), attr := s.mem.get (0xFE00 + 4 * k + 3) }

/-- 8 or 16 rows: LCDC bit 2 (R38, R417). -/
def spriteHeight (s : State) : Nat := if s.ppu.lcdc.getLsbD 2 then 16 else 8

/-- `Y - 16 <= y < Y - 16 + h` (R417). -/
def Sprite.onLine (p : Sprite) (h y : Nat) : Bool := decide (p.y ≤ y + 16) && decide (y + 16 < p.y + h)

/-- Put a record behind those with the same or a smaller X. -/
def insertByX (p : Sprite) : List Sprite → List Sprite
  | [] => [p]
  | q :: qs => if p.x < q.x then p :: q :: qs else q :: insertByX p qs

/-- The first 10 records on the line in OAM order, then by X ascending, ties by record number (R417). -/
def lineSprites (s : State) (y : Nat) : List Sprite :=
  ((((List.range 40).map (sprite s)).filter (·.onLine (spriteHeight s) y)).take 10).foldl (fun acc p => insertByX p acc) []

/-- The colour index of a sprite at a pixel, or none where it does not reach or is transparent (R417). -/
def spriteColour (s : State) (x y : Nat) (p : Sprite) : Option (Nat × Byte) :=
  if p.x ≤ x + 8 ∧ x + 8 < p.x + 8 then
    let cx := x + 8 - p.x
    let h := spriteHeight s
    let r := if p.attr.getLsbD 6 then h - 1 - (y + 16 - p.y) else y + 16 - p.y
    let t := if h = 16 then p.tile &&& 0xFE else p.tile
    let row := 0x8000 + 16 * t.toNat + 2 * r
    let ci := planeColour (s.mem.get row) (s.mem.get (row + 1)) (if p.attr.getLsbD 5 then cx else 7 - cx)
    if ci = 0 then none else some (ci, p.attr)
  else none

/-- `TopSprite(x, y)` (R417) over the records of the line. -/
def topSprite (s : State) (line : List Sprite) (x y : Nat) : Option (Nat × Byte) :=
  if s.ppu.lcdc.getLsbD 1 then line.findSome? (spriteColour s x y) else none

/-! ### The row -/

/-- `Pixel(x, y)` (R414). -/
def pixel (s : State) (line : List Sprite) (y x : Nat) : BitVec 2 :=
  let ci := if windowCovers s x y then winColour s x y else bgColour s x y
  match topSprite s line x y with
  | some (sci, attr) =>
    if !attr.getLsbD 7 || ci == 0 then shade (if attr.getLsbD 4 then s.ppu.obp1 else s.ppu.obp0) sci
    else shade s.ppu.bgp ci
  | none => shade s.ppu.bgp ci

/-- `RenderLine(y)` (R414): 160 pixel values. -/
def renderLine (s : State) (y : Nat) : List (BitVec 2) := (List.range 160).map (pixel s (lineSprites s y) y)

end Sys2Proof.Machine
end

