-- ==== Sys2Proof/Machine/Ppu.lean ====
section
/-! DEFINITION. The PPU scanline state machine (R400 to R411). -/

namespace Sys2Proof.Machine

/-- `ModeBits` (R401). -/
def modeBits : PpuMode → BitVec 2
  | .oamSearch => 0b10
  | .pixelTransfer => 0b11
  | .hBlank => 0b00
  | .vBlank => 0b01

/-- The cycles of a state, for vertical blank those of one line of it (R400). -/
def PpuMode.budget : PpuMode → Nat
  | .oamSearch => 80
  | .pixelTransfer => 172
  | .hBlank => 204
  | .vBlank => 456

/-- `LCDC` bit 7: the LCD is on (R38). -/
def State.lcdOn (s : State) : Bool := s.ppu.lcdc.getLsbD 7

/-- `ppu_state <- m` (R52). -/
def State.setMode (s : State) (m : PpuMode) : State := { s with ppu := { s.ppu with mode := m } }

/-- `ppu_line <- n; ly <- n` (R403, R404). -/
def State.publishLine (s : State) (n : Nat) : State :=
  { s with ppu := { s.ppu with line := n, ly := BitVec.ofNat 8 n } }

/-- Request line 1 if `stat_sel[j]` is set: STAT bit 3 + j (R404, R407). -/
def State.statRequest (s : State) (j : Nat) : State :=
  if s.ppu.statSel.getLsbD j then s.setInterrupt 1 else s

/-- `EnterPixelTransfer()` (R404). -/
def State.enterPixelTransfer (s : State) : State :=
  (s.setMode .pixelTransfer).emit (.drawLine s.ppu.line (renderLine s s.ppu.line))

/-- `EnterHBlank()` (R404). -/
def State.enterHBlank (s : State) : State := (s.setMode .hBlank).statRequest 0

/-- `EnterOamSearch()` (R404). -/
def State.enterOamSearch (s : State) : State := (s.setMode .oamSearch).statRequest 2

/-- `EndOfLine()` (R404, R408). -/
def State.endOfLine (s : State) : State :=
  if s.ppu.line + 1 = 144 then
    ((((s.publishLine (s.ppu.line + 1)).setMode .vBlank).setInterrupt 0).emit .frameComplete).statRequest 1
  else (s.publishLine (s.ppu.line + 1)).enterOamSearch

/-- `EndOfVBlankLine()` (R404). -/
def State.endOfVBlankLine (s : State) : State :=
  if s.ppu.line + 1 = 154 then (s.publishLine 0).enterOamSearch
  else s.publishLine (s.ppu.line + 1)

/-- What happens when the cycles of the current state are over (R402). -/
def State.leaveMode (s : State) : State :=
  match s.ppu.mode with
  | .oamSearch => s.enterPixelTransfer
  | .pixelTransfer => s.enterHBlank
  | .hBlank => s.endOfLine
  | .vBlank => s.endOfVBlankLine

/-- `ppu_dot <- n` (R52). -/
def State.setDot (s : State) (n : Nat) : State := { s with ppu := { s.ppu with dot := n } }

/-- The loop of `PpuAdvance` (R402), with fuel: every turn takes at least 80 cycles away. -/
def State.ppuLoop : Nat → State → State
  | 0, s => s
  | fuel + 1, s =>
    if s.ppu.dot < s.ppu.mode.budget then s
    else State.ppuLoop fuel (s.setDot (s.ppu.dot - s.ppu.mode.budget)).leaveMode

/-- `PpuAdvance(n)` (R402): nothing while the LCD is off. -/
def State.ppuAdvance (s : State) (n : Nat) : State :=
  if s.lcdOn then (s.setDot (s.ppu.dot + n)).ppuLoop (s.ppu.dot + n) else s

/-- The start of OAM search on line 0 with LY 0: what `PpuEnable` and `PpuDisable` both set (R405, R406). -/
def State.ppuHome (s : State) : State :=
  { s with ppu := { s.ppu with mode := .oamSearch, dot := 0, line := 0, ly := 0x00 } }

/-- `PpuEnable()` (R405): no interrupt is requested. -/
def State.ppuEnable (s : State) : State := s.ppuHome

/-- `PpuDisable()` (R406). -/
def State.ppuDisable (s : State) : State := s.ppuHome.emit .blank

end Sys2Proof.Machine
end

