-- ==== Sys2Proof/Machine/Timer.lean ====
section
/-! DEFINITION. The timer (R380 to R387). -/

namespace Sys2Proof.Machine

/-- `SelBit(tac[1:0])`: bits 9, 3, 5, 7 of the counter (R385). -/
def selBit (tac : BitVec 3) : Nat :=
  match (tac.extractLsb' 0 2).toNat with
  | 0 => 9
  | 1 => 3
  | 2 => 5
  | _ => 7

/-- One increment of the counter takes the selected bit from 0 to 1 while TAC bit 2 is set (R385, R386). -/
def timerEdge (tac : BitVec 3) (old new : BitVec 16) : Bool :=
  tac.getLsbD 2 && !old.getLsbD (selBit tac) && new.getLsbD (selBit tac)

/-- TIMA counts once: at 0xFF it reloads from TMA in the same cycle and requests line 2 (R386). -/
def State.timaCount (s : State) : State :=
  if s.timer.tima = 0xFF then
    State.setInterrupt { s with timer := { s.timer with tima := s.timer.tma } } 2
  else { s with timer := { s.timer with tima := s.timer.tima + 1 } }

/-- `div_counter <- v` (R51). -/
def State.setDivCounter (s : State) (v : BitVec 16) : State := { s with timer := { s.timer with div := v } }

/-- One cycle of the timer: the body of the loop of R386. -/
def State.timerTick (s : State) : State :=
  if timerEdge s.timer.tac s.timer.div (s.timer.div + 1) then (s.setDivCounter (s.timer.div + 1)).timaCount
  else s.setDivCounter (s.timer.div + 1)

/-- `TimerAdvance(n)` (R386). -/
def State.timerAdvance (s : State) : Nat → State
  | 0 => s
  | n + 1 => s.timerTick.timerAdvance n

end Sys2Proof.Machine
end

