-- ==== Sys2Proof/Machine/Bus.lean ====
section
/-! DEFINITION. The bus: region decode (R75), the I/O registers (R84, R85) and the two byte primitives (R71, R72). -/

namespace Sys2Proof.Machine

/-- The rows of R75. -/
inductive Region where
  | boot | rom | vram | extRam | wram | echo | oam | unusable | io | hram | ie
  deriving DecidableEq, Repr

/-- Region decode (R75): the boot row matches only while the overlay is on. -/
def regionOf (overlay : Bool) (a : Word) : Region :=
  if overlay ∧ a.toNat < 0x0100 then .boot
  else if a.toNat < 0x8000 then .rom
  else if a.toNat < 0xA000 then .vram
  else if a.toNat < 0xC000 then .extRam
  else if a.toNat < 0xE000 then .wram
  else if a.toNat < 0xFE00 then .echo
  else if a.toNat < 0xFEA0 then .oam
  else if a.toNat < 0xFF00 then .unusable
  else if a.toNat < 0xFF80 then .io
  else if a.toNat < 0xFFFF then .hram
  else .ie

/-- The region an address selects now. -/
def State.region (s : State) (a : Word) : Region := regionOf s.bootOverlay a

/-- The registers with an address in 0xFF00 to 0xFF7F (R84). -/
inductive IoReg where
  | p1 | div | tima | tma | tac | if_ | lcdc | stat | scy | scx | ly | lyc | dma | bgp | obp0 | obp1 | wy | wx
  deriving DecidableEq, Repr

/-- The register at an address, none where nothing is bound (R84, R93). -/
def ioReg? (a : Word) : Option IoReg :=
  match a.toNat with
  | 0xFF00 => some .p1
  | 0xFF04 => some .div
  | 0xFF05 => some .tima
  | 0xFF06 => some .tma
  | 0xFF07 => some .tac
  | 0xFF0F => some .if_
  | 0xFF40 => some .lcdc
  | 0xFF41 => some .stat
  | 0xFF42 => some .scy
  | 0xFF43 => some .scx
  | 0xFF44 => some .ly
  | 0xFF45 => some .lyc
  | 0xFF46 => some .dma
  | 0xFF47 => some .bgp
  | 0xFF48 => some .obp0
  | 0xFF49 => some .obp1
  | 0xFF4A => some .wy
  | 0xFF4B => some .wx
  | _ => none

/-- An I/O read (R84, R31 to R45). -/
def State.ioRead (s : State) : IoReg → Byte
  | .p1 => (0b11 : BitVec 2) ++ s.joy.p1Sel ++ joyNibble s.joy
  | .div => s.timer.div.extractLsb' 8 8
  | .tima => s.timer.tima
  | .tma => s.timer.tma
  | .tac => (0b11111 : BitVec 5) ++ s.timer.tac
  | .if_ => (0b111 : BitVec 3) ++ s.int.if_
  | .lcdc => s.ppu.lcdc
  | .stat => (0b1 : BitVec 1) ++ s.ppu.statSel ++ (0b0 : BitVec 1) ++ modeBits s.ppu.mode
  | .scy => s.ppu.scy
  | .scx => s.ppu.scx
  | .ly => s.ppu.ly
  | .lyc => s.ppu.lyc
  | .dma => s.ppu.dma
  | .bgp => s.ppu.bgp
  | .obp0 => s.ppu.obp0
  | .obp1 => s.ppu.obp1
  | .wy => s.ppu.wy
  | .wx => s.ppu.wx

/-- `lcdc <- v` with no side effect. -/
def State.setLcdc (s : State) (v : Byte) : State := { s with ppu := { s.ppu with lcdc := v } }

/-- The LCDC write (R92): a change of bit 7 enables or disables the PPU. -/
def State.writeLcdc (s : State) (v : Byte) : State :=
  if !s.lcdOn && v.getLsbD 7 then (s.setLcdc v).ppuEnable
  else if s.lcdOn && !v.getLsbD 7 then (s.setLcdc v).ppuDisable
  else s.setLcdc v

/-- An I/O write (R85, R90 to R92, R99). -/
def State.ioWrite (s : State) (r : IoReg) (v : Byte) : State :=
  match r with
  | .p1 => { s with joy := { s.joy with p1Sel := v.extractLsb' 4 2 } }
  | .div => s.setDivCounter 0x0000
  | .tima => { s with timer := { s.timer with tima := v } }
  | .tma => { s with timer := { s.timer with tma := v } }
  | .tac => { s with timer := { s.timer with tac := v.extractLsb' 0 3 } }
  | .if_ => { s with int := { s.int with if_ := v.extractLsb' 0 5 } }
  | .lcdc => s.writeLcdc v
  | .stat => { s with ppu := { s.ppu with statSel := v.extractLsb' 3 4 } }
  | .scy => { s with ppu := { s.ppu with scy := v } }
  | .scx => { s with ppu := { s.ppu with scx := v } }
  | .ly => { s with ppu := { s.ppu with ly := 0x00 } }
  | .lyc => { s with ppu := { s.ppu with lyc := v } }
  | .dma => { s with ppu := { s.ppu with dma := v } }
  | .bgp => { s with ppu := { s.ppu with bgp := v } }
  | .obp0 => { s with ppu := { s.ppu with obp0 := v } }
  | .obp1 => { s with ppu := { s.ppu with obp1 := v } }
  | .wy => { s with ppu := { s.ppu with wy := v } }
  | .wx => { s with ppu := { s.ppu with wx := v } }

/-- The key of the storage cell an address of work RAM, its echo or another memory reaches (R81). -/
def cellOf (a : Word) : Nat := if 0xE000 ≤ a.toNat ∧ a.toNat < 0xFE00 then a.toNat - 0x2000 else a.toNat

/-- The storage cell of an address. -/
def State.cell (s : State) (a : Word) : Byte := s.mem.get (cellOf a)

/-- Write the storage cell of an address. -/
def State.setCell (s : State) (a : Word) (v : Byte) : State := { s with mem := s.mem.set (cellOf a) v }

/-- The read gate of video RAM and OAM (R78, R82, R410). -/
def State.gated (s : State) (v : Byte) : Byte := if s.ppu.mode = .pixelTransfer then 0xFF else v

/-- `BOOT[a]` (R77). With BOOT absent the overlay is off in every reachable state (R60). -/
def State.bootByte (s : State) (a : Word) : Byte :=
  match s.params.boot with
  | some m => m.get a.toNat
  | none => Memory.blank

/-- A read of an address with no binding (R94). -/
def State.unmappedRead (s : State) (a : Word) : Except Fault Byte :=
  if s.params.busStrict then .error (.busUnmapped a .read) else .ok 0x00

/-- A write to an address with no binding (R94). -/
def State.unmappedWrite (s : State) (a : Word) : Except Fault State :=
  if s.params.busStrict then .error (.busUnmapped a .write) else .ok s

/-- `MemRead(a, 1)` (R71, R76 to R87). It changes no state (R98). -/
def State.memRead (s : State) (a : Word) : Except Fault Byte :=
  match s.region a with
  | .boot => .ok (s.bootByte a)
  | .rom => .ok (s.cell a)
  | .vram => .ok (s.gated (s.cell a))
  | .extRam => if s.params.extRam then .ok (s.cell a) else s.unmappedRead a
  | .wram => .ok (s.cell a)
  | .echo => .ok (s.cell a)
  | .oam => .ok (s.gated (s.cell a))
  | .unusable => .ok 0x00
  | .io =>
    match ioReg? a with
    | some r => .ok (s.ioRead r)
    | none => s.unmappedRead a
  | .hram => .ok (s.cell a)
  | .ie => .ok s.int.ie

/-- `MemWrite(a, 1, v)` (R72, R76 to R87). -/
def State.memWrite (s : State) (a : Word) (v : Byte) : Except Fault State :=
  match s.region a with
  | .boot => .ok s
  | .rom => .ok s
  | .vram => .ok (s.setCell a v)
  | .extRam => if s.params.extRam then .ok (s.setCell a v) else s.unmappedWrite a
  | .wram => .ok (s.setCell a v)
  | .echo => .ok (s.setCell a v)
  | .oam => .ok (s.setCell a v)
  | .unusable => .ok s
  | .io =>
    match ioReg? a with
    | some r => .ok (s.ioWrite r v)
    | none => s.unmappedWrite a
  | .hram => .ok (s.setCell a v)
  | .ie => .ok { s with int := { s.int with ie := v } }

end Sys2Proof.Machine
end

