-- ==== Sys2Proof/Machine/Ops.lean ====
section
/-! DEFINITION. The shared operations over the bus and the registers: words (R73, R74), the stack (R28, R29), the fetch
(R17, R121), interrupt dispatch (R373) and the return from it (R319). -/

namespace Sys2Proof.Machine

/-! ### Words and the stack -/

/-- `MemRead(a, 2)`: the low byte is read first (R73). -/
def State.memRead16 (s : State) (a : Word) : Except Fault Word := do
  let l ← s.memRead a
  let h ← s.memRead (a + 1)
  return pair h l

/-- `MemWrite(a, 2, v)`: the low byte is written first (R74). -/
def State.memWrite16 (s : State) (a v : Word) : Except Fault State := do
  let s1 ← s.memWrite a (lo v)
  s1.memWrite (a + 1) (hi v)

/-- `Push16(v)` (R28). -/
def State.push16 (s : State) (v : Word) : Except Fault State :=
  (s.setSP (s.regs.sp - 2)).memWrite16 (s.regs.sp - 2) v

/-- `Pop16()`: the value and the state with SP moved (R29). -/
def State.pop16 (s : State) : Except Fault (Word × State) := do
  let v ← s.memRead16 s.regs.sp
  return (v, s.setSP (s.regs.sp + 2))

/-! ### The fetch -/

/-- `Fetch8()` (R17). -/
def State.fetch8 (s : State) : Except Fault (Byte × State) := do
  let b ← s.memRead s.regs.pc
  return (b, s.setPC (s.regs.pc + 1))

/-- The decode sequence of R121: the opcode byte, the second opcode byte after 0xCB or the immediate bytes the row calls
for, in address order. -/
def State.fetchInstr (s : State) : Except Fault (Instr × State) := do
  let (op, s1) ← s.fetch8
  match formatOf op with
  | .op => return (decodeOp op 0 0, s1)
  | .opN | .opE | .cb =>
    let (b1, s2) ← s1.fetch8
    return (decodeOp op b1 0, s2)
  | .opNN =>
    let (b1, s2) ← s1.fetch8
    let (b2, s3) ← s2.fetch8
    return (decodeOp op b1 b2, s3)

/-! ### Taking an interrupt and returning from it -/

/-- `Dispatch` of line `i` (R373): clear the flag, clear IME, push pc, go to the vector, charge 20 cycles. -/
def State.dispatch (s : State) (i : Nat) : Except Fault State := do
  let s1 ← ((s.resetInterrupt i).setIme false).push16 s.regs.pc
  return (s1.setPC (vector i)).charge 20

/-- The effect of RETI (R319, R374): pop pc, set IME at once. -/
def State.returnFromInterrupt (s : State) : Except Fault State := do
  let (v, s1) ← s.pop16
  return (s1.setPC v).setIme true

/-- A halted core wakes when an enabled line is pending, whatever IME is (R361). -/
def State.wake (s : State) : State :=
  if s.runState = .halted ∧ s.pending ≠ 0 then s.setRun .running else s

/-- The check (R372) and the dispatch it leads to: at most one, only while running and with IME set. -/
def State.takeInterrupt (s : State) : Except Fault State :=
  if s.runState = .running ∧ s.int.ime then
    match leastLine s.pending with
    | some i => s.dispatch i
    | none => .ok s
  else .ok s

/-! ### The phases of a step (R360) -/

/-- Lines 1 and 2 of R360. -/
def State.beginStep (s : State) : State := { s.drain with cycles := 0 }

/-- Lines 1 to 3 of R360: drain, wake, check. -/
def State.prepare (s : State) : Except Fault State := s.beginStep.wake.takeInterrupt

/-- The boot overlay is removed when pc is 0x0100 just before the opcode fetch (R362). -/
def State.dropOverlay (s : State) : State := if s.regs.pc = 0x0100 then { s with bootOverlay := false } else s

/-- `clock <- clock + cycles` (R55, R360 line 7). -/
def State.publishClock (s : State) : State := { s with clock := s.clock + s.cycles }

/-- Lines 5 to 7 of R360: timer and PPU take the whole sum, unless the core is stopped. -/
def State.endStep (s : State) : State :=
  if s.runState = .stopped then s.publishClock
  else ((s.timerAdvance s.cycles).ppuAdvance s.cycles).publishClock

/-- Line 4 of R360 when no instruction runs: a halted or stopped step costs 4 cycles (R332, R333). -/
def State.idle (s : State) : State := s.charge 4

/-- What an executed instruction is followed by: its retirement (R376), then lines 5 to 7. -/
def finishStep : Result → Result
  | .next t => .next t.imeRetire.endStep
  | .fault f => .fault f
  | .refused r => .refused r

/-- Go on with the value of a bus operation, or stop with its fault (R357). -/
def andThen {α : Type} (e : Except Fault α) (k : α → Result) : Result :=
  match e with
  | .ok v => k v
  | .error f => .fault f

/-! ### Placing an instruction from outside the machine -/

/-- Where the next step fetches its opcode: pc after the drain and the check. -/
def State.fetchAddress (s : State) : Word :=
  match s.prepare with
  | .ok t => t.regs.pc
  | .error _ => s.regs.pc

/-- Put a byte behind an address from outside: into BOOT under the overlay, else into the storage cell. An address that
has no storage keeps what it reads as (log 6). -/
def State.placeByte (s : State) (a : Word) (v : Byte) : State :=
  match s.region a with
  | .boot => { s with params := { s.params with boot := s.params.boot.map fun m => m.set a.toNat v } }
  | .rom | .vram | .extRam | .wram | .echo | .oam | .hram => s.setCell a v
  | .unusable | .io | .ie => s

/-- Put bytes behind rising addresses. -/
def State.placeBytes (s : State) (a : Word) : List Byte → State
  | [] => s
  | b :: bs => (s.placeByte a b).placeBytes (a + 1) bs

end Sys2Proof.Machine
end

