-- ==== Sys2Proof/Machine/Operands.lean ====
section
/-! DEFINITION. The instruction shapes: each operand form of the spec once, with its cost (R450). `pc` already stands
behind the whole instruction (R27). A bus fault ends the meaning where it happens (R199, R352). -/

namespace Sys2Proof.Machine

/-- The high page: 0xFF00 + n (R191 to R194). -/
def highPage (n : Byte) : Word := 0xFF00 + zext16 n

/-! ### 8-bit loads -/

/-- LD r,r' (R180). -/
def ldRegReg (dst src : Reg8) (s : State) : Result := .next ((s.setReg dst (s.reg src)).charge 4)

/-- LD r,n (R181). -/
def ldRegImm (dst : Reg8) (n : Byte) (s : State) : Result := .next ((s.setReg dst n).charge 8)

/-- A load of a register from the byte at an address (R182, R185, R186, R189, R192, R194). -/
def loadReg (dst : Reg8) (a : Word) (cost : Nat) (s : State) : Result :=
  andThen (s.memRead a) fun v => .next ((s.setReg dst v).charge cost)

/-- A store of a byte at an address (R183, R184, R187, R188, R190, R191, R193). -/
def storeByte (a : Word) (v : Byte) (cost : Nat) (s : State) : Result :=
  andThen (s.memWrite a v) fun t => .next (t.charge cost)

/-- LD A,(HL+) and LD A,(HL-): the load uses the old HL (R196, R198). -/
def loadStepHL (delta : Word) (s : State) : Result :=
  andThen (s.memRead s.hl) fun v => .next (((s.setReg .a v).setHL (s.hl + delta)).charge 8)

/-- LD (HL+),A and LD (HL-),A: the store uses the old HL (R195, R197). -/
def storeStepHL (delta : Word) (s : State) : Result :=
  andThen (s.memWrite s.hl s.regs.a) fun t => .next ((t.setHL (s.hl + delta)).charge 8)

/-! ### 16-bit loads and the stack -/

/-- LD rr,nn (R210). -/
def ldPairImm (p : Reg16) (nn : Word) (s : State) : Result := .next ((s.setReg16 p nn).charge 12)

/-- LD (nn),SP (R211). -/
def storeSP (nn : Word) (s : State) : Result :=
  andThen (s.memWrite16 nn s.regs.sp) fun t => .next (t.charge 20)

/-- LD SP,HL (R212). -/
def ldSPHL (s : State) : Result := .next ((s.setSP s.hl).charge 8)

/-- LD HL,SP+e (R213). -/
def ldHLSPe (e : Byte) (s : State) : Result :=
  .next (((s.setHL (addsp s.regs.sp e).1).setFlags (addsp s.regs.sp e).2).charge 12)

/-- PUSH rr (R214). -/
def pushPair (p : StkReg) (s : State) : Result := andThen (s.push16 (s.stkReg p)) fun t => .next (t.charge 16)

/-- POP rr (R215): two reads, then SP moves; POP AF writes all four flags. -/
def popPair (p : StkReg) (s : State) : Result :=
  andThen s.pop16 fun (v, t) => .next ((t.setStkReg p v).charge 12)

/-! ### 8-bit arithmetic and logic -/

/-- The state after `alu(y) A,x` with second operand `v` (R220). -/
def State.aluA (s : State) (op : AluOp) (v : Byte) : State :=
  (s.setReg .a (aluApply op s.regs.a v s.flags.c).1).setFlags (aluApply op s.regs.a v s.flags.c).2

/-- `alu(y) A,r` (R220, R221, R224, R227, R230, R233, R236, R239, R242). -/
def aluReg (op : AluOp) (r : Reg8) (s : State) : Result := .next ((s.aluA op (s.reg r)).charge 4)

/-- `alu(y) A,(HL)` (R222, R225, R228, R231, R234, R237, R240, R243). -/
def aluInd (op : AluOp) (s : State) : Result := andThen (s.memRead s.hl) fun v => .next ((s.aluA op v).charge 8)

/-- `alu(y) A,n` (R223, R226, R229, R232, R235, R238, R241, R244). -/
def aluImm (op : AluOp) (n : Byte) (s : State) : Result := .next ((s.aluA op n).charge 8)

/-- A register replaced by a function of it, with the flags (R245, R247, R275 to R289). -/
def modifyReg (f : Byte → Byte × Flags) (r : Reg8) (cost : Nat) (s : State) : Result :=
  .next (((s.setReg r (f (s.reg r)).1).setFlags (f (s.reg r)).2).charge cost)

/-- The byte at HL read, replaced by a function of it, written back, with the flags (R97, R246, R248, R276 to R290). -/
def modifyInd (f : Byte → Byte × Flags) (cost : Nat) (s : State) : Result :=
  andThen (s.memRead s.hl) fun v =>
    andThen (s.memWrite s.hl (f v).1) fun t => .next ((t.setFlags (f v).2).charge cost)

/-- INC r (R245). -/
def incReg (r : Reg8) (s : State) : Result := modifyReg (fun v => inc8 v s.flags) r 4 s

/-- DEC r (R247). -/
def decReg (r : Reg8) (s : State) : Result := modifyReg (fun v => dec8 v s.flags) r 4 s

/-! ### 16-bit arithmetic -/

/-- ADD HL,rr (R261). -/
def addHL (p : Reg16) (s : State) : Result :=
  .next (((s.setHL (add16 s.hl (s.reg16 p) s.flags).1).setFlags (add16 s.hl (s.reg16 p) s.flags).2).charge 8)

/-- INC rr (R262): no flag is written. -/
def incPair (p : Reg16) (s : State) : Result := .next ((s.setReg16 p (s.reg16 p + 1)).charge 8)

/-- DEC rr (R263): no flag is written. -/
def decPair (p : Reg16) (s : State) : Result := .next ((s.setReg16 p (s.reg16 p - 1)).charge 8)

/-- ADD SP,e (R264). -/
def addSPe (e : Byte) (s : State) : Result :=
  .next (((s.setSP (addsp s.regs.sp e).1).setFlags (addsp s.regs.sp e).2).charge 16)

/-! ### Rotates, shifts and bit operations -/

/-- The accumulator rotates: Z is cleared (R271 to R274). -/
def rotAcc (op : RotOp) (s : State) : Result :=
  .next (((s.setReg .a (rotApply op s.regs.a s.flags.c).1).setFlags
    { (rotApply op s.regs.a s.flags.c).2 with z := false }).charge 4)

/-- `rot(y) r8(z)` (R270, R275 to R290). -/
def rotOpnd (op : RotOp) (o : Opnd8) (s : State) : Result :=
  match o with
  | .reg r => modifyReg (fun v => rotApply op v s.flags.c) r 8 s
  | .mHL => modifyInd (fun v => rotApply op v s.flags.c) 16 s

/-- BIT n,r8(z) (R301, R302). -/
def bitOpnd (n : Nat) (o : Opnd8) (s : State) : Result :=
  match o with
  | .reg r => .next ((s.setFlags (bit8 n (s.reg r) s.flags)).charge 8)
  | .mHL => andThen (s.memRead s.hl) fun v => .next ((s.setFlags (bit8 n v s.flags)).charge 12)

/-- RES and SET: an operand replaced by a function of it, no flag written (R303 to R306). -/
def replaceOpnd (f : Byte → Byte) (o : Opnd8) (s : State) : Result :=
  match o with
  | .reg r => .next ((s.setReg r (f (s.reg r))).charge 8)
  | .mHL =>
    andThen (s.memRead s.hl) fun v => andThen (s.memWrite s.hl (f v)) fun t => .next (t.charge 16)

/-- RES n,r8(z) (R303, R304). -/
def resOpnd (n : Nat) (o : Opnd8) (s : State) : Result := replaceOpnd (res8 n) o s

/-- SET n,r8(z) (R305, R306). -/
def setOpnd (n : Nat) (o : Opnd8) (s : State) : Result := replaceOpnd (set8 n) o s

/-- The instruction of a second opcode byte (R133, R336). -/
def runCb (op2 : Byte) (s : State) : Result :=
  match fieldX op2 with
  | 0 => rotOpnd (rotOpOf (fieldY op2)) (opnd8Of (fieldZ op2)) s
  | 1 => bitOpnd (fieldY op2).toNat (opnd8Of (fieldZ op2)) s
  | 2 => resOpnd (fieldY op2).toNat (opnd8Of (fieldZ op2)) s
  | _ => setOpnd (fieldY op2).toNat (opnd8Of (fieldZ op2)) s

/-! ### Jumps, calls and returns -/

/-- Go to an address (R311, R313, R321). -/
def jumpTo (a : Word) (cost : Nat) (s : State) : Result := .next ((s.setPC a).charge cost)

/-- `pc + sext_16(e)` (R313). -/
def relTarget (s : State) (e : Byte) : Word := s.regs.pc + sext16 e

/-- Push pc and go to an address (R315, R320). -/
def callTo (a : Word) (cost : Nat) (s : State) : Result :=
  andThen (s.push16 s.regs.pc) fun t => .next ((t.setPC a).charge cost)

/-- Pop pc (R317). -/
def returnWith (cost : Nat) (s : State) : Result :=
  andThen s.pop16 fun (v, t) => .next ((t.setPC v).charge cost)

/-- A conditional instruction: the taken meaning, or only the cost of the one not taken (R310). -/
def conditional (cc : Cond) (taken : State → Result) (cost : Nat) (s : State) : Result :=
  if s.holds cc then taken s else .next (s.charge cost)

end Sys2Proof.Machine
end

