-- ==== Sys2Proof/Machine/Arith16.lean ====
section
/-! DEFINITION. 16-bit arithmetic (44_arith16.md, R260 to R264).
One meaning per instruction, over the shapes of Operands.lean. -/

namespace Sys2Proof.Machine

/-- INC BC (R262). -/
def execInc_BC (s : State) : Result := incPair .bc s

/-- ADD HL,BC (R261). -/
def execAdd_HL_BC (s : State) : Result := addHL .bc s

/-- DEC BC (R263). -/
def execDec_BC (s : State) : Result := decPair .bc s

/-- INC DE (R262). -/
def execInc_DE (s : State) : Result := incPair .de s

/-- ADD HL,DE (R261). -/
def execAdd_HL_DE (s : State) : Result := addHL .de s

/-- DEC DE (R263). -/
def execDec_DE (s : State) : Result := decPair .de s

/-- INC HL (R262). -/
def execInc_HL (s : State) : Result := incPair .hl s

/-- ADD HL,HL (R261). -/
def execAdd_HL_HL (s : State) : Result := addHL .hl s

/-- DEC HL (R263). -/
def execDec_HL (s : State) : Result := decPair .hl s

/-- INC SP (R262). -/
def execInc_SP (s : State) : Result := incPair .sp s

/-- ADD HL,SP (R261). -/
def execAdd_HL_SP (s : State) : Result := addHL .sp s

/-- DEC SP (R263). -/
def execDec_SP (s : State) : Result := decPair .sp s

/-- ADD SP,e (R264). -/
def execAdd_SP_e (e : Byte) (s : State) : Result := addSPe e s

end Sys2Proof.Machine
end

