-- ==== Sys2Proof/Machine/Arith8.lean ====
section
/-! DEFINITION. 8-bit arithmetic and logic (43_arith8.md, R220 to R252).
One meaning per instruction, over the shapes of Operands.lean. -/

namespace Sys2Proof.Machine

/-- INC B (R245). -/
def execInc_B (s : State) : Result := incReg .b s

/-- DEC B (R247). -/
def execDec_B (s : State) : Result := decReg .b s

/-- INC C (R245). -/
def execInc_C (s : State) : Result := incReg .c s

/-- DEC C (R247). -/
def execDec_C (s : State) : Result := decReg .c s

/-- INC D (R245). -/
def execInc_D (s : State) : Result := incReg .d s

/-- DEC D (R247). -/
def execDec_D (s : State) : Result := decReg .d s

/-- INC E (R245). -/
def execInc_E (s : State) : Result := incReg .e s

/-- DEC E (R247). -/
def execDec_E (s : State) : Result := decReg .e s

/-- INC H (R245). -/
def execInc_H (s : State) : Result := incReg .h s

/-- DEC H (R247). -/
def execDec_H (s : State) : Result := decReg .h s

/-- DAA (R249). -/
def execDaa (s : State) : Result := modifyReg (fun v => daa8 v s.flags) .a 4 s

/-- INC L (R245). -/
def execInc_L (s : State) : Result := incReg .l s

/-- DEC L (R247). -/
def execDec_L (s : State) : Result := decReg .l s

/-- CPL (R250). -/
def execCpl (s : State) : Result :=
  .next (((s.setReg .a (~~~s.regs.a)).setFlags { s.flags with n := true, h := true }).charge 4)

/-- INC (HL) (R246). -/
def execInc_mHL (s : State) : Result := modifyInd (fun v => inc8 v s.flags) 12 s

/-- DEC (HL) (R248). -/
def execDec_mHL (s : State) : Result := modifyInd (fun v => dec8 v s.flags) 12 s

/-- SCF (R251). -/
def execScf (s : State) : Result := .next ((s.setFlags { s.flags with n := false, h := false, c := true }).charge 4)

/-- INC A (R245). -/
def execInc_A (s : State) : Result := incReg .a s

/-- DEC A (R247). -/
def execDec_A (s : State) : Result := decReg .a s

/-- CCF (R252). -/
def execCcf (s : State) : Result :=
  .next ((s.setFlags { s.flags with n := false, h := false, c := !s.flags.c }).charge 4)

/-- ADD A,B (R221). -/
def execAdd_A_B (s : State) : Result := aluReg .add .b s

/-- ADD A,C (R221). -/
def execAdd_A_C (s : State) : Result := aluReg .add .c s

/-- ADD A,D (R221). -/
def execAdd_A_D (s : State) : Result := aluReg .add .d s

/-- ADD A,E (R221). -/
def execAdd_A_E (s : State) : Result := aluReg .add .e s

/-- ADD A,H (R221). -/
def execAdd_A_H (s : State) : Result := aluReg .add .h s

/-- ADD A,L (R221). -/
def execAdd_A_L (s : State) : Result := aluReg .add .l s

/-- ADD A,(HL) (R222). -/
def execAdd_A_mHL (s : State) : Result := aluInd .add s

/-- ADD A,A (R221). -/
def execAdd_A_A (s : State) : Result := aluReg .add .a s

/-- ADC A,B (R224). -/
def execAdc_A_B (s : State) : Result := aluReg .adc .b s

/-- ADC A,C (R224). -/
def execAdc_A_C (s : State) : Result := aluReg .adc .c s

/-- ADC A,D (R224). -/
def execAdc_A_D (s : State) : Result := aluReg .adc .d s

/-- ADC A,E (R224). -/
def execAdc_A_E (s : State) : Result := aluReg .adc .e s

/-- ADC A,H (R224). -/
def execAdc_A_H (s : State) : Result := aluReg .adc .h s

/-- ADC A,L (R224). -/
def execAdc_A_L (s : State) : Result := aluReg .adc .l s

/-- ADC A,(HL) (R225). -/
def execAdc_A_mHL (s : State) : Result := aluInd .adc s

/-- ADC A,A (R224). -/
def execAdc_A_A (s : State) : Result := aluReg .adc .a s

/-- SUB B (R227). -/
def execSub_B (s : State) : Result := aluReg .sub .b s

/-- SUB C (R227). -/
def execSub_C (s : State) : Result := aluReg .sub .c s

/-- SUB D (R227). -/
def execSub_D (s : State) : Result := aluReg .sub .d s

/-- SUB E (R227). -/
def execSub_E (s : State) : Result := aluReg .sub .e s

/-- SUB H (R227). -/
def execSub_H (s : State) : Result := aluReg .sub .h s

/-- SUB L (R227). -/
def execSub_L (s : State) : Result := aluReg .sub .l s

/-- SUB (HL) (R228). -/
def execSub_mHL (s : State) : Result := aluInd .sub s

/-- SUB A (R227). -/
def execSub_A (s : State) : Result := aluReg .sub .a s

/-- SBC A,B (R230). -/
def execSbc_A_B (s : State) : Result := aluReg .sbc .b s

/-- SBC A,C (R230). -/
def execSbc_A_C (s : State) : Result := aluReg .sbc .c s

/-- SBC A,D (R230). -/
def execSbc_A_D (s : State) : Result := aluReg .sbc .d s

/-- SBC A,E (R230). -/
def execSbc_A_E (s : State) : Result := aluReg .sbc .e s

/-- SBC A,H (R230). -/
def execSbc_A_H (s : State) : Result := aluReg .sbc .h s

/-- SBC A,L (R230). -/
def execSbc_A_L (s : State) : Result := aluReg .sbc .l s

/-- SBC A,(HL) (R231). -/
def execSbc_A_mHL (s : State) : Result := aluInd .sbc s

/-- SBC A,A (R230). -/
def execSbc_A_A (s : State) : Result := aluReg .sbc .a s

/-- AND B (R233). -/
def execAnd_B (s : State) : Result := aluReg .and .b s

/-- AND C (R233). -/
def execAnd_C (s : State) : Result := aluReg .and .c s

/-- AND D (R233). -/
def execAnd_D (s : State) : Result := aluReg .and .d s

/-- AND E (R233). -/
def execAnd_E (s : State) : Result := aluReg .and .e s

/-- AND H (R233). -/
def execAnd_H (s : State) : Result := aluReg .and .h s

/-- AND L (R233). -/
def execAnd_L (s : State) : Result := aluReg .and .l s

/-- AND (HL) (R234). -/
def execAnd_mHL (s : State) : Result := aluInd .and s

/-- AND A (R233). -/
def execAnd_A (s : State) : Result := aluReg .and .a s

/-- XOR B (R236). -/
def execXor_B (s : State) : Result := aluReg .xor .b s

/-- XOR C (R236). -/
def execXor_C (s : State) : Result := aluReg .xor .c s

/-- XOR D (R236). -/
def execXor_D (s : State) : Result := aluReg .xor .d s

/-- XOR E (R236). -/
def execXor_E (s : State) : Result := aluReg .xor .e s

/-- XOR H (R236). -/
def execXor_H (s : State) : Result := aluReg .xor .h s

/-- XOR L (R236). -/
def execXor_L (s : State) : Result := aluReg .xor .l s

/-- XOR (HL) (R237). -/
def execXor_mHL (s : State) : Result := aluInd .xor s

/-- XOR A (R236). -/
def execXor_A (s : State) : Result := aluReg .xor .a s

/-- OR B (R239). -/
def execOr_B (s : State) : Result := aluReg .or .b s

/-- OR C (R239). -/
def execOr_C (s : State) : Result := aluReg .or .c s

/-- OR D (R239). -/
def execOr_D (s : State) : Result := aluReg .or .d s

/-- OR E (R239). -/
def execOr_E (s : State) : Result := aluReg .or .e s

/-- OR H (R239). -/
def execOr_H (s : State) : Result := aluReg .or .h s

/-- OR L (R239). -/
def execOr_L (s : State) : Result := aluReg .or .l s

/-- OR (HL) (R240). -/
def execOr_mHL (s : State) : Result := aluInd .or s

/-- OR A (R239). -/
def execOr_A (s : State) : Result := aluReg .or .a s

/-- CP B (R242). -/
def execCp_B (s : State) : Result := aluReg .cp .b s

/-- CP C (R242). -/
def execCp_C (s : State) : Result := aluReg .cp .c s

/-- CP D (R242). -/
def execCp_D (s : State) : Result := aluReg .cp .d s

/-- CP E (R242). -/
def execCp_E (s : State) : Result := aluReg .cp .e s

/-- CP H (R242). -/
def execCp_H (s : State) : Result := aluReg .cp .h s

/-- CP L (R242). -/
def execCp_L (s : State) : Result := aluReg .cp .l s

/-- CP (HL) (R243). -/
def execCp_mHL (s : State) : Result := aluInd .cp s

/-- CP A (R242). -/
def execCp_A (s : State) : Result := aluReg .cp .a s

/-- ADD A,n (R223). -/
def execAdd_A_n (n : Byte) (s : State) : Result := aluImm .add n s

/-- ADC A,n (R226). -/
def execAdc_A_n (n : Byte) (s : State) : Result := aluImm .adc n s

/-- SUB n (R229). -/
def execSub_n (n : Byte) (s : State) : Result := aluImm .sub n s

/-- SBC A,n (R232). -/
def execSbc_A_n (n : Byte) (s : State) : Result := aluImm .sbc n s

/-- AND n (R235). -/
def execAnd_n (n : Byte) (s : State) : Result := aluImm .and n s

/-- XOR n (R238). -/
def execXor_n (n : Byte) (s : State) : Result := aluImm .xor n s

/-- OR n (R241). -/
def execOr_n (n : Byte) (s : State) : Result := aluImm .or n s

/-- CP n (R244). -/
def execCp_n (n : Byte) (s : State) : Result := aluImm .cp n s

end Sys2Proof.Machine
end

