-- ==== Sys2Proof/Machine/BitOps.lean ====
section
/-! DEFINITION. BIT, RES and SET (46_bit.md, R300 to R306).
One meaning per instruction, over the shapes of Operands.lean. -/

namespace Sys2Proof.Machine

/-- BIT 0,B (R301). -/
def execBit_0_B (s : State) : Result := bitOpnd 0 (.reg .b) s

/-- BIT 0,C (R301). -/
def execBit_0_C (s : State) : Result := bitOpnd 0 (.reg .c) s

/-- BIT 0,D (R301). -/
def execBit_0_D (s : State) : Result := bitOpnd 0 (.reg .d) s

/-- BIT 0,E (R301). -/
def execBit_0_E (s : State) : Result := bitOpnd 0 (.reg .e) s

/-- BIT 0,H (R301). -/
def execBit_0_H (s : State) : Result := bitOpnd 0 (.reg .h) s

/-- BIT 0,L (R301). -/
def execBit_0_L (s : State) : Result := bitOpnd 0 (.reg .l) s

/-- BIT 0,(HL) (R302). -/
def execBit_0_mHL (s : State) : Result := bitOpnd 0 .mHL s

/-- BIT 0,A (R301). -/
def execBit_0_A (s : State) : Result := bitOpnd 0 (.reg .a) s

/-- BIT 1,B (R301). -/
def execBit_1_B (s : State) : Result := bitOpnd 1 (.reg .b) s

/-- BIT 1,C (R301). -/
def execBit_1_C (s : State) : Result := bitOpnd 1 (.reg .c) s

/-- BIT 1,D (R301). -/
def execBit_1_D (s : State) : Result := bitOpnd 1 (.reg .d) s

/-- BIT 1,E (R301). -/
def execBit_1_E (s : State) : Result := bitOpnd 1 (.reg .e) s

/-- BIT 1,H (R301). -/
def execBit_1_H (s : State) : Result := bitOpnd 1 (.reg .h) s

/-- BIT 1,L (R301). -/
def execBit_1_L (s : State) : Result := bitOpnd 1 (.reg .l) s

/-- BIT 1,(HL) (R302). -/
def execBit_1_mHL (s : State) : Result := bitOpnd 1 .mHL s

/-- BIT 1,A (R301). -/
def execBit_1_A (s : State) : Result := bitOpnd 1 (.reg .a) s

/-- BIT 2,B (R301). -/
def execBit_2_B (s : State) : Result := bitOpnd 2 (.reg .b) s

/-- BIT 2,C (R301). -/
def execBit_2_C (s : State) : Result := bitOpnd 2 (.reg .c) s

/-- BIT 2,D (R301). -/
def execBit_2_D (s : State) : Result := bitOpnd 2 (.reg .d) s

/-- BIT 2,E (R301). -/
def execBit_2_E (s : State) : Result := bitOpnd 2 (.reg .e) s

/-- BIT 2,H (R301). -/
def execBit_2_H (s : State) : Result := bitOpnd 2 (.reg .h) s

/-- BIT 2,L (R301). -/
def execBit_2_L (s : State) : Result := bitOpnd 2 (.reg .l) s

/-- BIT 2,(HL) (R302). -/
def execBit_2_mHL (s : State) : Result := bitOpnd 2 .mHL s

/-- BIT 2,A (R301). -/
def execBit_2_A (s : State) : Result := bitOpnd 2 (.reg .a) s

/-- BIT 3,B (R301). -/
def execBit_3_B (s : State) : Result := bitOpnd 3 (.reg .b) s

/-- BIT 3,C (R301). -/
def execBit_3_C (s : State) : Result := bitOpnd 3 (.reg .c) s

/-- BIT 3,D (R301). -/
def execBit_3_D (s : State) : Result := bitOpnd 3 (.reg .d) s

/-- BIT 3,E (R301). -/
def execBit_3_E (s : State) : Result := bitOpnd 3 (.reg .e) s

/-- BIT 3,H (R301). -/
def execBit_3_H (s : State) : Result := bitOpnd 3 (.reg .h) s

/-- BIT 3,L (R301). -/
def execBit_3_L (s : State) : Result := bitOpnd 3 (.reg .l) s

/-- BIT 3,(HL) (R302). -/
def execBit_3_mHL (s : State) : Result := bitOpnd 3 .mHL s

/-- BIT 3,A (R301). -/
def execBit_3_A (s : State) : Result := bitOpnd 3 (.reg .a) s

/-- BIT 4,B (R301). -/
def execBit_4_B (s : State) : Result := bitOpnd 4 (.reg .b) s

/-- BIT 4,C (R301). -/
def execBit_4_C (s : State) : Result := bitOpnd 4 (.reg .c) s

/-- BIT 4,D (R301). -/
def execBit_4_D (s : State) : Result := bitOpnd 4 (.reg .d) s

/-- BIT 4,E (R301). -/
def execBit_4_E (s : State) : Result := bitOpnd 4 (.reg .e) s

/-- BIT 4,H (R301). -/
def execBit_4_H (s : State) : Result := bitOpnd 4 (.reg .h) s

/-- BIT 4,L (R301). -/
def execBit_4_L (s : State) : Result := bitOpnd 4 (.reg .l) s

/-- BIT 4,(HL) (R302). -/
def execBit_4_mHL (s : State) : Result := bitOpnd 4 .mHL s

/-- BIT 4,A (R301). -/
def execBit_4_A (s : State) : Result := bitOpnd 4 (.reg .a) s

/-- BIT 5,B (R301). -/
def execBit_5_B (s : State) : Result := bitOpnd 5 (.reg .b) s

/-- BIT 5,C (R301). -/
def execBit_5_C (s : State) : Result := bitOpnd 5 (.reg .c) s

/-- BIT 5,D (R301). -/
def execBit_5_D (s : State) : Result := bitOpnd 5 (.reg .d) s

/-- BIT 5,E (R301). -/
def execBit_5_E (s : State) : Result := bitOpnd 5 (.reg .e) s

/-- BIT 5,H (R301). -/
def execBit_5_H (s : State) : Result := bitOpnd 5 (.reg .h) s

/-- BIT 5,L (R301). -/
def execBit_5_L (s : State) : Result := bitOpnd 5 (.reg .l) s

/-- BIT 5,(HL) (R302). -/
def execBit_5_mHL (s : State) : Result := bitOpnd 5 .mHL s

/-- BIT 5,A (R301). -/
def execBit_5_A (s : State) : Result := bitOpnd 5 (.reg .a) s

/-- BIT 6,B (R301). -/
def execBit_6_B (s : State) : Result := bitOpnd 6 (.reg .b) s

/-- BIT 6,C (R301). -/
def execBit_6_C (s : State) : Result := bitOpnd 6 (.reg .c) s

/-- BIT 6,D (R301). -/
def execBit_6_D (s : State) : Result := bitOpnd 6 (.reg .d) s

/-- BIT 6,E (R301). -/
def execBit_6_E (s : State) : Result := bitOpnd 6 (.reg .e) s

/-- BIT 6,H (R301). -/
def execBit_6_H (s : State) : Result := bitOpnd 6 (.reg .h) s

/-- BIT 6,L (R301). -/
def execBit_6_L (s : State) : Result := bitOpnd 6 (.reg .l) s

/-- BIT 6,(HL) (R302). -/
def execBit_6_mHL (s : State) : Result := bitOpnd 6 .mHL s

/-- BIT 6,A (R301). -/
def execBit_6_A (s : State) : Result := bitOpnd 6 (.reg .a) s

/-- BIT 7,B (R301). -/
def execBit_7_B (s : State) : Result := bitOpnd 7 (.reg .b) s

/-- BIT 7,C (R301). -/
def execBit_7_C (s : State) : Result := bitOpnd 7 (.reg .c) s

/-- BIT 7,D (R301). -/
def execBit_7_D (s : State) : Result := bitOpnd 7 (.reg .d) s

/-- BIT 7,E (R301). -/
def execBit_7_E (s : State) : Result := bitOpnd 7 (.reg .e) s

/-- BIT 7,H (R301). -/
def execBit_7_H (s : State) : Result := bitOpnd 7 (.reg .h) s

/-- BIT 7,L (R301). -/
def execBit_7_L (s : State) : Result := bitOpnd 7 (.reg .l) s

/-- BIT 7,(HL) (R302). -/
def execBit_7_mHL (s : State) : Result := bitOpnd 7 .mHL s

/-- BIT 7,A (R301). -/
def execBit_7_A (s : State) : Result := bitOpnd 7 (.reg .a) s

/-- RES 0,B (R303). -/
def execRes_0_B (s : State) : Result := resOpnd 0 (.reg .b) s

/-- RES 0,C (R303). -/
def execRes_0_C (s : State) : Result := resOpnd 0 (.reg .c) s

/-- RES 0,D (R303). -/
def execRes_0_D (s : State) : Result := resOpnd 0 (.reg .d) s

/-- RES 0,E (R303). -/
def execRes_0_E (s : State) : Result := resOpnd 0 (.reg .e) s

/-- RES 0,H (R303). -/
def execRes_0_H (s : State) : Result := resOpnd 0 (.reg .h) s

/-- RES 0,L (R303). -/
def execRes_0_L (s : State) : Result := resOpnd 0 (.reg .l) s

/-- RES 0,(HL) (R304). -/
def execRes_0_mHL (s : State) : Result := resOpnd 0 .mHL s

/-- RES 0,A (R303). -/
def execRes_0_A (s : State) : Result := resOpnd 0 (.reg .a) s

/-- RES 1,B (R303). -/
def execRes_1_B (s : State) : Result := resOpnd 1 (.reg .b) s

/-- RES 1,C (R303). -/
def execRes_1_C (s : State) : Result := resOpnd 1 (.reg .c) s

/-- RES 1,D (R303). -/
def execRes_1_D (s : State) : Result := resOpnd 1 (.reg .d) s

/-- RES 1,E (R303). -/
def execRes_1_E (s : State) : Result := resOpnd 1 (.reg .e) s

/-- RES 1,H (R303). -/
def execRes_1_H (s : State) : Result := resOpnd 1 (.reg .h) s

/-- RES 1,L (R303). -/
def execRes_1_L (s : State) : Result := resOpnd 1 (.reg .l) s

/-- RES 1,(HL) (R304). -/
def execRes_1_mHL (s : State) : Result := resOpnd 1 .mHL s

/-- RES 1,A (R303). -/
def execRes_1_A (s : State) : Result := resOpnd 1 (.reg .a) s

/-- RES 2,B (R303). -/
def execRes_2_B (s : State) : Result := resOpnd 2 (.reg .b) s

/-- RES 2,C (R303). -/
def execRes_2_C (s : State) : Result := resOpnd 2 (.reg .c) s

/-- RES 2,D (R303). -/
def execRes_2_D (s : State) : Result := resOpnd 2 (.reg .d) s

/-- RES 2,E (R303). -/
def execRes_2_E (s : State) : Result := resOpnd 2 (.reg .e) s

/-- RES 2,H (R303). -/
def execRes_2_H (s : State) : Result := resOpnd 2 (.reg .h) s

/-- RES 2,L (R303). -/
def execRes_2_L (s : State) : Result := resOpnd 2 (.reg .l) s

/-- RES 2,(HL) (R304). -/
def execRes_2_mHL (s : State) : Result := resOpnd 2 .mHL s

/-- RES 2,A (R303). -/
def execRes_2_A (s : State) : Result := resOpnd 2 (.reg .a) s

/-- RES 3,B (R303). -/
def execRes_3_B (s : State) : Result := resOpnd 3 (.reg .b) s

/-- RES 3,C (R303). -/
def execRes_3_C (s : State) : Result := resOpnd 3 (.reg .c) s

/-- RES 3,D (R303). -/
def execRes_3_D (s : State) : Result := resOpnd 3 (.reg .d) s

/-- RES 3,E (R303). -/
def execRes_3_E (s : State) : Result := resOpnd 3 (.reg .e) s

/-- RES 3,H (R303). -/
def execRes_3_H (s : State) : Result := resOpnd 3 (.reg .h) s

/-- RES 3,L (R303). -/
def execRes_3_L (s : State) : Result := resOpnd 3 (.reg .l) s

/-- RES 3,(HL) (R304). -/
def execRes_3_mHL (s : State) : Result := resOpnd 3 .mHL s

/-- RES 3,A (R303). -/
def execRes_3_A (s : State) : Result := resOpnd 3 (.reg .a) s

/-- RES 4,B (R303). -/
def execRes_4_B (s : State) : Result := resOpnd 4 (.reg .b) s

/-- RES 4,C (R303). -/
def execRes_4_C (s : State) : Result := resOpnd 4 (.reg .c) s

/-- RES 4,D (R303). -/
def execRes_4_D (s : State) : Result := resOpnd 4 (.reg .d) s

/-- RES 4,E (R303). -/
def execRes_4_E (s : State) : Result := resOpnd 4 (.reg .e) s

/-- RES 4,H (R303). -/
def execRes_4_H (s : State) : Result := resOpnd 4 (.reg .h) s

/-- RES 4,L (R303). -/
def execRes_4_L (s : State) : Result := resOpnd 4 (.reg .l) s

/-- RES 4,(HL) (R304). -/
def execRes_4_mHL (s : State) : Result := resOpnd 4 .mHL s

/-- RES 4,A (R303). -/
def execRes_4_A (s : State) : Result := resOpnd 4 (.reg .a) s

/-- RES 5,B (R303). -/
def execRes_5_B (s : State) : Result := resOpnd 5 (.reg .b) s

/-- RES 5,C (R303). -/
def execRes_5_C (s : State) : Result := resOpnd 5 (.reg .c) s

/-- RES 5,D (R303). -/
def execRes_5_D (s : State) : Result := resOpnd 5 (.reg .d) s

/-- RES 5,E (R303). -/
def execRes_5_E (s : State) : Result := resOpnd 5 (.reg .e) s

/-- RES 5,H (R303). -/
def execRes_5_H (s : State) : Result := resOpnd 5 (.reg .h) s

/-- RES 5,L (R303). -/
def execRes_5_L (s : State) : Result := resOpnd 5 (.reg .l) s

/-- RES 5,(HL) (R304). -/
def execRes_5_mHL (s : State) : Result := resOpnd 5 .mHL s

/-- RES 5,A (R303). -/
def execRes_5_A (s : State) : Result := resOpnd 5 (.reg .a) s

/-- RES 6,B (R303). -/
def execRes_6_B (s : State) : Result := resOpnd 6 (.reg .b) s

/-- RES 6,C (R303). -/
def execRes_6_C (s : State) : Result := resOpnd 6 (.reg .c) s

/-- RES 6,D (R303). -/
def execRes_6_D (s : State) : Result := resOpnd 6 (.reg .d) s

/-- RES 6,E (R303). -/
def execRes_6_E (s : State) : Result := resOpnd 6 (.reg .e) s

/-- RES 6,H (R303). -/
def execRes_6_H (s : State) : Result := resOpnd 6 (.reg .h) s

/-- RES 6,L (R303). -/
def execRes_6_L (s : State) : Result := resOpnd 6 (.reg .l) s

/-- RES 6,(HL) (R304). -/
def execRes_6_mHL (s : State) : Result := resOpnd 6 .mHL s

/-- RES 6,A (R303). -/
def execRes_6_A (s : State) : Result := resOpnd 6 (.reg .a) s

/-- RES 7,B (R303). -/
def execRes_7_B (s : State) : Result := resOpnd 7 (.reg .b) s

/-- RES 7,C (R303). -/
def execRes_7_C (s : State) : Result := resOpnd 7 (.reg .c) s

/-- RES 7,D (R303). -/
def execRes_7_D (s : State) : Result := resOpnd 7 (.reg .d) s

/-- RES 7,E (R303). -/
def execRes_7_E (s : State) : Result := resOpnd 7 (.reg .e) s

/-- RES 7,H (R303). -/
def execRes_7_H (s : State) : Result := resOpnd 7 (.reg .h) s

/-- RES 7,L (R303). -/
def execRes_7_L (s : State) : Result := resOpnd 7 (.reg .l) s

/-- RES 7,(HL) (R304). -/
def execRes_7_mHL (s : State) : Result := resOpnd 7 .mHL s

/-- RES 7,A (R303). -/
def execRes_7_A (s : State) : Result := resOpnd 7 (.reg .a) s

/-- SET 0,B (R305). -/
def execSet_0_B (s : State) : Result := setOpnd 0 (.reg .b) s

/-- SET 0,C (R305). -/
def execSet_0_C (s : State) : Result := setOpnd 0 (.reg .c) s

/-- SET 0,D (R305). -/
def execSet_0_D (s : State) : Result := setOpnd 0 (.reg .d) s

/-- SET 0,E (R305). -/
def execSet_0_E (s : State) : Result := setOpnd 0 (.reg .e) s

/-- SET 0,H (R305). -/
def execSet_0_H (s : State) : Result := setOpnd 0 (.reg .h) s

/-- SET 0,L (R305). -/
def execSet_0_L (s : State) : Result := setOpnd 0 (.reg .l) s

/-- SET 0,(HL) (R306). -/
def execSet_0_mHL (s : State) : Result := setOpnd 0 .mHL s

/-- SET 0,A (R305). -/
def execSet_0_A (s : State) : Result := setOpnd 0 (.reg .a) s

/-- SET 1,B (R305). -/
def execSet_1_B (s : State) : Result := setOpnd 1 (.reg .b) s

/-- SET 1,C (R305). -/
def execSet_1_C (s : State) : Result := setOpnd 1 (.reg .c) s

/-- SET 1,D (R305). -/
def execSet_1_D (s : State) : Result := setOpnd 1 (.reg .d) s

/-- SET 1,E (R305). -/
def execSet_1_E (s : State) : Result := setOpnd 1 (.reg .e) s

/-- SET 1,H (R305). -/
def execSet_1_H (s : State) : Result := setOpnd 1 (.reg .h) s

/-- SET 1,L (R305). -/
def execSet_1_L (s : State) : Result := setOpnd 1 (.reg .l) s

/-- SET 1,(HL) (R306). -/
def execSet_1_mHL (s : State) : Result := setOpnd 1 .mHL s

/-- SET 1,A (R305). -/
def execSet_1_A (s : State) : Result := setOpnd 1 (.reg .a) s

/-- SET 2,B (R305). -/
def execSet_2_B (s : State) : Result := setOpnd 2 (.reg .b) s

/-- SET 2,C (R305). -/
def execSet_2_C (s : State) : Result := setOpnd 2 (.reg .c) s

/-- SET 2,D (R305). -/
def execSet_2_D (s : State) : Result := setOpnd 2 (.reg .d) s

/-- SET 2,E (R305). -/
def execSet_2_E (s : State) : Result := setOpnd 2 (.reg .e) s

/-- SET 2,H (R305). -/
def execSet_2_H (s : State) : Result := setOpnd 2 (.reg .h) s

/-- SET 2,L (R305). -/
def execSet_2_L (s : State) : Result := setOpnd 2 (.reg .l) s

/-- SET 2,(HL) (R306). -/
def execSet_2_mHL (s : State) : Result := setOpnd 2 .mHL s

/-- SET 2,A (R305). -/
def execSet_2_A (s : State) : Result := setOpnd 2 (.reg .a) s

/-- SET 3,B (R305). -/
def execSet_3_B (s : State) : Result := setOpnd 3 (.reg .b) s

/-- SET 3,C (R305). -/
def execSet_3_C (s : State) : Result := setOpnd 3 (.reg .c) s

/-- SET 3,D (R305). -/
def execSet_3_D (s : State) : Result := setOpnd 3 (.reg .d) s

/-- SET 3,E (R305). -/
def execSet_3_E (s : State) : Result := setOpnd 3 (.reg .e) s

/-- SET 3,H (R305). -/
def execSet_3_H (s : State) : Result := setOpnd 3 (.reg .h) s

/-- SET 3,L (R305). -/
def execSet_3_L (s : State) : Result := setOpnd 3 (.reg .l) s

/-- SET 3,(HL) (R306). -/
def execSet_3_mHL (s : State) : Result := setOpnd 3 .mHL s

/-- SET 3,A (R305). -/
def execSet_3_A (s : State) : Result := setOpnd 3 (.reg .a) s

/-- SET 4,B (R305). -/
def execSet_4_B (s : State) : Result := setOpnd 4 (.reg .b) s

/-- SET 4,C (R305). -/
def execSet_4_C (s : State) : Result := setOpnd 4 (.reg .c) s

/-- SET 4,D (R305). -/
def execSet_4_D (s : State) : Result := setOpnd 4 (.reg .d) s

/-- SET 4,E (R305). -/
def execSet_4_E (s : State) : Result := setOpnd 4 (.reg .e) s

/-- SET 4,H (R305). -/
def execSet_4_H (s : State) : Result := setOpnd 4 (.reg .h) s

/-- SET 4,L (R305). -/
def execSet_4_L (s : State) : Result := setOpnd 4 (.reg .l) s

/-- SET 4,(HL) (R306). -/
def execSet_4_mHL (s : State) : Result := setOpnd 4 .mHL s

/-- SET 4,A (R305). -/
def execSet_4_A (s : State) : Result := setOpnd 4 (.reg .a) s

/-- SET 5,B (R305). -/
def execSet_5_B (s : State) : Result := setOpnd 5 (.reg .b) s

/-- SET 5,C (R305). -/
def execSet_5_C (s : State) : Result := setOpnd 5 (.reg .c) s

/-- SET 5,D (R305). -/
def execSet_5_D (s : State) : Result := setOpnd 5 (.reg .d) s

/-- SET 5,E (R305). -/
def execSet_5_E (s : State) : Result := setOpnd 5 (.reg .e) s

/-- SET 5,H (R305). -/
def execSet_5_H (s : State) : Result := setOpnd 5 (.reg .h) s

/-- SET 5,L (R305). -/
def execSet_5_L (s : State) : Result := setOpnd 5 (.reg .l) s

/-- SET 5,(HL) (R306). -/
def execSet_5_mHL (s : State) : Result := setOpnd 5 .mHL s

/-- SET 5,A (R305). -/
def execSet_5_A (s : State) : Result := setOpnd 5 (.reg .a) s

/-- SET 6,B (R305). -/
def execSet_6_B (s : State) : Result := setOpnd 6 (.reg .b) s

/-- SET 6,C (R305). -/
def execSet_6_C (s : State) : Result := setOpnd 6 (.reg .c) s

/-- SET 6,D (R305). -/
def execSet_6_D (s : State) : Result := setOpnd 6 (.reg .d) s

/-- SET 6,E (R305). -/
def execSet_6_E (s : State) : Result := setOpnd 6 (.reg .e) s

/-- SET 6,H (R305). -/
def execSet_6_H (s : State) : Result := setOpnd 6 (.reg .h) s

/-- SET 6,L (R305). -/
def execSet_6_L (s : State) : Result := setOpnd 6 (.reg .l) s

/-- SET 6,(HL) (R306). -/
def execSet_6_mHL (s : State) : Result := setOpnd 6 .mHL s

/-- SET 6,A (R305). -/
def execSet_6_A (s : State) : Result := setOpnd 6 (.reg .a) s

/-- SET 7,B (R305). -/
def execSet_7_B (s : State) : Result := setOpnd 7 (.reg .b) s

/-- SET 7,C (R305). -/
def execSet_7_C (s : State) : Result := setOpnd 7 (.reg .c) s

/-- SET 7,D (R305). -/
def execSet_7_D (s : State) : Result := setOpnd 7 (.reg .d) s

/-- SET 7,E (R305). -/
def execSet_7_E (s : State) : Result := setOpnd 7 (.reg .e) s

/-- SET 7,H (R305). -/
def execSet_7_H (s : State) : Result := setOpnd 7 (.reg .h) s

/-- SET 7,L (R305). -/
def execSet_7_L (s : State) : Result := setOpnd 7 (.reg .l) s

/-- SET 7,(HL) (R306). -/
def execSet_7_mHL (s : State) : Result := setOpnd 7 .mHL s

/-- SET 7,A (R305). -/
def execSet_7_A (s : State) : Result := setOpnd 7 (.reg .a) s

end Sys2Proof.Machine
end

