-- ==== Sys2Proof/Machine/Control.lean ====
section
/-! DEFINITION. Jumps, calls, returns and restarts (47_control.md, R310 to R321).
One meaning per instruction, over the shapes of Operands.lean. -/

namespace Sys2Proof.Machine

/-- JR e (R313). -/
def execJr_e (e : Byte) (s : State) : Result := jumpTo (relTarget s e) 12 s

/-- JR NZ,e (R314). -/
def execJr_NZ_e (e : Byte) (s : State) : Result := conditional .nz (jumpTo (relTarget s e) 12) 8 s

/-- JR Z,e (R314). -/
def execJr_Z_e (e : Byte) (s : State) : Result := conditional .z (jumpTo (relTarget s e) 12) 8 s

/-- JR NC,e (R314). -/
def execJr_NC_e (e : Byte) (s : State) : Result := conditional .nc (jumpTo (relTarget s e) 12) 8 s

/-- JR C,e (R314). -/
def execJr_C_e (e : Byte) (s : State) : Result := conditional .c (jumpTo (relTarget s e) 12) 8 s

/-- RET NZ (R318). -/
def execRet_NZ (s : State) : Result := conditional .nz (returnWith 20) 8 s

/-- JP NZ,nn (R312). -/
def execJp_NZ_nn (nn : Word) (s : State) : Result := conditional .nz (jumpTo nn 16) 12 s

/-- JP nn (R311). -/
def execJp_nn (nn : Word) (s : State) : Result := jumpTo nn 16 s

/-- CALL NZ,nn (R316). -/
def execCall_NZ_nn (nn : Word) (s : State) : Result := conditional .nz (callTo nn 24) 12 s

/-- RST 0x00 (R320). -/
def execRst_00 (s : State) : Result := callTo 0x00 16 s

/-- RET Z (R318). -/
def execRet_Z (s : State) : Result := conditional .z (returnWith 20) 8 s

/-- RET (R317). -/
def execRet (s : State) : Result := returnWith 16 s

/-- JP Z,nn (R312). -/
def execJp_Z_nn (nn : Word) (s : State) : Result := conditional .z (jumpTo nn 16) 12 s

/-- CALL Z,nn (R316). -/
def execCall_Z_nn (nn : Word) (s : State) : Result := conditional .z (callTo nn 24) 12 s

/-- CALL nn (R315). -/
def execCall_nn (nn : Word) (s : State) : Result := callTo nn 24 s

/-- RST 0x08 (R320). -/
def execRst_08 (s : State) : Result := callTo 0x08 16 s

/-- RET NC (R318). -/
def execRet_NC (s : State) : Result := conditional .nc (returnWith 20) 8 s

/-- JP NC,nn (R312). -/
def execJp_NC_nn (nn : Word) (s : State) : Result := conditional .nc (jumpTo nn 16) 12 s

/-- CALL NC,nn (R316). -/
def execCall_NC_nn (nn : Word) (s : State) : Result := conditional .nc (callTo nn 24) 12 s

/-- RST 0x10 (R320). -/
def execRst_10 (s : State) : Result := callTo 0x10 16 s

/-- RET C (R318). -/
def execRet_C (s : State) : Result := conditional .c (returnWith 20) 8 s

/-- RETI (R319). IME is set at once. -/
def execReti (s : State) : Result := andThen s.returnFromInterrupt fun t => .next (t.charge 16)

/-- JP C,nn (R312). -/
def execJp_C_nn (nn : Word) (s : State) : Result := conditional .c (jumpTo nn 16) 12 s

/-- CALL C,nn (R316). -/
def execCall_C_nn (nn : Word) (s : State) : Result := conditional .c (callTo nn 24) 12 s

/-- RST 0x18 (R320). -/
def execRst_18 (s : State) : Result := callTo 0x18 16 s

/-- RST 0x20 (R320). -/
def execRst_20 (s : State) : Result := callTo 0x20 16 s

/-- JP (HL) (R321). -/
def execJp_HL (s : State) : Result := jumpTo s.hl 4 s

/-- RST 0x28 (R320). -/
def execRst_28 (s : State) : Result := callTo 0x28 16 s

/-- RST 0x30 (R320). -/
def execRst_30 (s : State) : Result := callTo 0x30 16 s

/-- RST 0x38 (R320). -/
def execRst_38 (s : State) : Result := callTo 0x38 16 s

end Sys2Proof.Machine
end

