-- ==== Sys2Proof/Machine/Load16.lean ====
section
/-! DEFINITION. 16-bit loads and stack instructions (42_load16_stack.md, R210 to R216).
One meaning per instruction, over the shapes of Operands.lean. -/

namespace Sys2Proof.Machine

/-- LD BC,nn (R210). -/
def execLd_BC_nn (nn : Word) (s : State) : Result := ldPairImm .bc nn s

/-- LD (nn),SP (R211). -/
def execLd_mnn_SP (nn : Word) (s : State) : Result := storeSP nn s

/-- LD DE,nn (R210). -/
def execLd_DE_nn (nn : Word) (s : State) : Result := ldPairImm .de nn s

/-- LD HL,nn (R210). -/
def execLd_HL_nn (nn : Word) (s : State) : Result := ldPairImm .hl nn s

/-- LD SP,nn (R210). -/
def execLd_SP_nn (nn : Word) (s : State) : Result := ldPairImm .sp nn s

/-- POP BC (R215). -/
def execPop_BC (s : State) : Result := popPair .bc s

/-- PUSH BC (R214). -/
def execPush_BC (s : State) : Result := pushPair .bc s

/-- POP DE (R215). -/
def execPop_DE (s : State) : Result := popPair .de s

/-- PUSH DE (R214). -/
def execPush_DE (s : State) : Result := pushPair .de s

/-- POP HL (R215). -/
def execPop_HL (s : State) : Result := popPair .hl s

/-- PUSH HL (R214). -/
def execPush_HL (s : State) : Result := pushPair .hl s

/-- POP AF (R215). -/
def execPop_AF (s : State) : Result := popPair .af s

/-- PUSH AF (R214). -/
def execPush_AF (s : State) : Result := pushPair .af s

/-- LD HL,SP+e (R213). -/
def execLd_HL_SPe (e : Byte) (s : State) : Result := ldHLSPe e s

/-- LD SP,HL (R212). -/
def execLd_SP_HL (s : State) : Result := ldSPHL s

end Sys2Proof.Machine
end

