-- ==== Sys2Proof/Machine/Load8.lean ====
section
/-! DEFINITION. 8-bit loads (41_load8.md, R180 to R199).
One meaning per instruction, over the shapes of Operands.lean. -/

namespace Sys2Proof.Machine

/-- LD (BC),A (R187). -/
def execLd_mBC_A (s : State) : Result := storeByte s.bc s.regs.a 8 s

/-- LD B,n (R181). -/
def execLd_B_n (n : Byte) (s : State) : Result := ldRegImm .b n s

/-- LD A,(BC) (R185). -/
def execLd_A_mBC (s : State) : Result := loadReg .a s.bc 8 s

/-- LD C,n (R181). -/
def execLd_C_n (n : Byte) (s : State) : Result := ldRegImm .c n s

/-- LD (DE),A (R188). -/
def execLd_mDE_A (s : State) : Result := storeByte s.de s.regs.a 8 s

/-- LD D,n (R181). -/
def execLd_D_n (n : Byte) (s : State) : Result := ldRegImm .d n s

/-- LD A,(DE) (R186). -/
def execLd_A_mDE (s : State) : Result := loadReg .a s.de 8 s

/-- LD E,n (R181). -/
def execLd_E_n (n : Byte) (s : State) : Result := ldRegImm .e n s

/-- LD (HL+),A (R195). -/
def execLd_mHLi_A (s : State) : Result := storeStepHL 1 s

/-- LD H,n (R181). -/
def execLd_H_n (n : Byte) (s : State) : Result := ldRegImm .h n s

/-- LD A,(HL+) (R196). -/
def execLd_A_mHLi (s : State) : Result := loadStepHL 1 s

/-- LD L,n (R181). -/
def execLd_L_n (n : Byte) (s : State) : Result := ldRegImm .l n s

/-- LD (HL-),A (R197). -/
def execLd_mHLd_A (s : State) : Result := storeStepHL (-1) s

/-- LD (HL),n (R184). -/
def execLd_mHL_n (n : Byte) (s : State) : Result := storeByte s.hl n 12 s

/-- LD A,(HL-) (R198). -/
def execLd_A_mHLd (s : State) : Result := loadStepHL (-1) s

/-- LD A,n (R181). -/
def execLd_A_n (n : Byte) (s : State) : Result := ldRegImm .a n s

/-- LD B,B (R180). -/
def execLd_B_B (s : State) : Result := ldRegReg .b .b s

/-- LD B,C (R180). -/
def execLd_B_C (s : State) : Result := ldRegReg .b .c s

/-- LD B,D (R180). -/
def execLd_B_D (s : State) : Result := ldRegReg .b .d s

/-- LD B,E (R180). -/
def execLd_B_E (s : State) : Result := ldRegReg .b .e s

/-- LD B,H (R180). -/
def execLd_B_H (s : State) : Result := ldRegReg .b .h s

/-- LD B,L (R180). -/
def execLd_B_L (s : State) : Result := ldRegReg .b .l s

/-- LD B,(HL) (R182). -/
def execLd_B_mHL (s : State) : Result := loadReg .b s.hl 8 s

/-- LD B,A (R180). -/
def execLd_B_A (s : State) : Result := ldRegReg .b .a s

/-- LD C,B (R180). -/
def execLd_C_B (s : State) : Result := ldRegReg .c .b s

/-- LD C,C (R180). -/
def execLd_C_C (s : State) : Result := ldRegReg .c .c s

/-- LD C,D (R180). -/
def execLd_C_D (s : State) : Result := ldRegReg .c .d s

/-- LD C,E (R180). -/
def execLd_C_E (s : State) : Result := ldRegReg .c .e s

/-- LD C,H (R180). -/
def execLd_C_H (s : State) : Result := ldRegReg .c .h s

/-- LD C,L (R180). -/
def execLd_C_L (s : State) : Result := ldRegReg .c .l s

/-- LD C,(HL) (R182). -/
def execLd_C_mHL (s : State) : Result := loadReg .c s.hl 8 s

/-- LD C,A (R180). -/
def execLd_C_A (s : State) : Result := ldRegReg .c .a s

/-- LD D,B (R180). -/
def execLd_D_B (s : State) : Result := ldRegReg .d .b s

/-- LD D,C (R180). -/
def execLd_D_C (s : State) : Result := ldRegReg .d .c s

/-- LD D,D (R180). -/
def execLd_D_D (s : State) : Result := ldRegReg .d .d s

/-- LD D,E (R180). -/
def execLd_D_E (s : State) : Result := ldRegReg .d .e s

/-- LD D,H (R180). -/
def execLd_D_H (s : State) : Result := ldRegReg .d .h s

/-- LD D,L (R180). -/
def execLd_D_L (s : State) : Result := ldRegReg .d .l s

/-- LD D,(HL) (R182). -/
def execLd_D_mHL (s : State) : Result := loadReg .d s.hl 8 s

/-- LD D,A (R180). -/
def execLd_D_A (s : State) : Result := ldRegReg .d .a s

/-- LD E,B (R180). -/
def execLd_E_B (s : State) : Result := ldRegReg .e .b s

/-- LD E,C (R180). -/
def execLd_E_C (s : State) : Result := ldRegReg .e .c s

/-- LD E,D (R180). -/
def execLd_E_D (s : State) : Result := ldRegReg .e .d s

/-- LD E,E (R180). -/
def execLd_E_E (s : State) : Result := ldRegReg .e .e s

/-- LD E,H (R180). -/
def execLd_E_H (s : State) : Result := ldRegReg .e .h s

/-- LD E,L (R180). -/
def execLd_E_L (s : State) : Result := ldRegReg .e .l s

/-- LD E,(HL) (R182). -/
def execLd_E_mHL (s : State) : Result := loadReg .e s.hl 8 s

/-- LD E,A (R180). -/
def execLd_E_A (s : State) : Result := ldRegReg .e .a s

/-- LD H,B (R180). -/
def execLd_H_B (s : State) : Result := ldRegReg .h .b s

/-- LD H,C (R180). -/
def execLd_H_C (s : State) : Result := ldRegReg .h .c s

/-- LD H,D (R180). -/
def execLd_H_D (s : State) : Result := ldRegReg .h .d s

/-- LD H,E (R180). -/
def execLd_H_E (s : State) : Result := ldRegReg .h .e s

/-- LD H,H (R180). -/
def execLd_H_H (s : State) : Result := ldRegReg .h .h s

/-- LD H,L (R180). -/
def execLd_H_L (s : State) : Result := ldRegReg .h .l s

/-- LD H,(HL) (R182). -/
def execLd_H_mHL (s : State) : Result := loadReg .h s.hl 8 s

/-- LD H,A (R180). -/
def execLd_H_A (s : State) : Result := ldRegReg .h .a s

/-- LD L,B (R180). -/
def execLd_L_B (s : State) : Result := ldRegReg .l .b s

/-- LD L,C (R180). -/
def execLd_L_C (s : State) : Result := ldRegReg .l .c s

/-- LD L,D (R180). -/
def execLd_L_D (s : State) : Result := ldRegReg .l .d s

/-- LD L,E (R180). -/
def execLd_L_E (s : State) : Result := ldRegReg .l .e s

/-- LD L,H (R180). -/
def execLd_L_H (s : State) : Result := ldRegReg .l .h s

/-- LD L,L (R180). -/
def execLd_L_L (s : State) : Result := ldRegReg .l .l s

/-- LD L,(HL) (R182). -/
def execLd_L_mHL (s : State) : Result := loadReg .l s.hl 8 s

/-- LD L,A (R180). -/
def execLd_L_A (s : State) : Result := ldRegReg .l .a s

/-- LD (HL),B (R183). -/
def execLd_mHL_B (s : State) : Result := storeByte s.hl s.regs.b 8 s

/-- LD (HL),C (R183). -/
def execLd_mHL_C (s : State) : Result := storeByte s.hl s.regs.c 8 s

/-- LD (HL),D (R183). -/
def execLd_mHL_D (s : State) : Result := storeByte s.hl s.regs.d 8 s

/-- LD (HL),E (R183). -/
def execLd_mHL_E (s : State) : Result := storeByte s.hl s.regs.e 8 s

/-- LD (HL),H (R183). -/
def execLd_mHL_H (s : State) : Result := storeByte s.hl s.regs.h 8 s

/-- LD (HL),L (R183). -/
def execLd_mHL_L (s : State) : Result := storeByte s.hl s.regs.l 8 s

/-- LD (HL),A (R183). -/
def execLd_mHL_A (s : State) : Result := storeByte s.hl s.regs.a 8 s

/-- LD A,B (R180). -/
def execLd_A_B (s : State) : Result := ldRegReg .a .b s

/-- LD A,C (R180). -/
def execLd_A_C (s : State) : Result := ldRegReg .a .c s

/-- LD A,D (R180). -/
def execLd_A_D (s : State) : Result := ldRegReg .a .d s

/-- LD A,E (R180). -/
def execLd_A_E (s : State) : Result := ldRegReg .a .e s

/-- LD A,H (R180). -/
def execLd_A_H (s : State) : Result := ldRegReg .a .h s

/-- LD A,L (R180). -/
def execLd_A_L (s : State) : Result := ldRegReg .a .l s

/-- LD A,(HL) (R182). -/
def execLd_A_mHL (s : State) : Result := loadReg .a s.hl 8 s

/-- LD A,A (R180). -/
def execLd_A_A (s : State) : Result := ldRegReg .a .a s

/-- LDH (n),A (R191). -/
def execLdh_mn_A (n : Byte) (s : State) : Result := storeByte (highPage n) s.regs.a 12 s

/-- LD (C),A (R193). -/
def execLd_mC_A (s : State) : Result := storeByte (highPage s.regs.c) s.regs.a 8 s

/-- LD (nn),A (R190). -/
def execLd_mnn_A (nn : Word) (s : State) : Result := storeByte nn s.regs.a 16 s

/-- LDH A,(n) (R192). -/
def execLdh_A_mn (n : Byte) (s : State) : Result := loadReg .a (highPage n) 12 s

/-- LD A,(C) (R194). -/
def execLd_A_mC (s : State) : Result := loadReg .a (highPage s.regs.c) 8 s

/-- LD A,(nn) (R189). -/
def execLd_A_mnn (nn : Word) (s : State) : Result := loadReg .a nn 16 s

end Sys2Proof.Machine
end

