-- ==== Sys2Proof/Machine/Rotate.lean ====
section
/-! DEFINITION. Rotates, shifts and swap (45_rotate_shift.md, R270 to R290).
One meaning per instruction, over the shapes of Operands.lean. -/

namespace Sys2Proof.Machine

/-- RLCA (R271). -/
def execRlca (s : State) : Result := rotAcc .rlc s

/-- RRCA (R272). -/
def execRrca (s : State) : Result := rotAcc .rrc s

/-- RLA (R273). -/
def execRla (s : State) : Result := rotAcc .rl s

/-- RRA (R274). -/
def execRra (s : State) : Result := rotAcc .rr s

/-- RLC B (R275). -/
def execRlc_B (s : State) : Result := rotOpnd .rlc (.reg .b) s

/-- RLC C (R275). -/
def execRlc_C (s : State) : Result := rotOpnd .rlc (.reg .c) s

/-- RLC D (R275). -/
def execRlc_D (s : State) : Result := rotOpnd .rlc (.reg .d) s

/-- RLC E (R275). -/
def execRlc_E (s : State) : Result := rotOpnd .rlc (.reg .e) s

/-- RLC H (R275). -/
def execRlc_H (s : State) : Result := rotOpnd .rlc (.reg .h) s

/-- RLC L (R275). -/
def execRlc_L (s : State) : Result := rotOpnd .rlc (.reg .l) s

/-- RLC (HL) (R276). -/
def execRlc_mHL (s : State) : Result := rotOpnd .rlc .mHL s

/-- RLC A (R275). -/
def execRlc_A (s : State) : Result := rotOpnd .rlc (.reg .a) s

/-- RRC B (R277). -/
def execRrc_B (s : State) : Result := rotOpnd .rrc (.reg .b) s

/-- RRC C (R277). -/
def execRrc_C (s : State) : Result := rotOpnd .rrc (.reg .c) s

/-- RRC D (R277). -/
def execRrc_D (s : State) : Result := rotOpnd .rrc (.reg .d) s

/-- RRC E (R277). -/
def execRrc_E (s : State) : Result := rotOpnd .rrc (.reg .e) s

/-- RRC H (R277). -/
def execRrc_H (s : State) : Result := rotOpnd .rrc (.reg .h) s

/-- RRC L (R277). -/
def execRrc_L (s : State) : Result := rotOpnd .rrc (.reg .l) s

/-- RRC (HL) (R278). -/
def execRrc_mHL (s : State) : Result := rotOpnd .rrc .mHL s

/-- RRC A (R277). -/
def execRrc_A (s : State) : Result := rotOpnd .rrc (.reg .a) s

/-- RL B (R279). -/
def execRl_B (s : State) : Result := rotOpnd .rl (.reg .b) s

/-- RL C (R279). -/
def execRl_C (s : State) : Result := rotOpnd .rl (.reg .c) s

/-- RL D (R279). -/
def execRl_D (s : State) : Result := rotOpnd .rl (.reg .d) s

/-- RL E (R279). -/
def execRl_E (s : State) : Result := rotOpnd .rl (.reg .e) s

/-- RL H (R279). -/
def execRl_H (s : State) : Result := rotOpnd .rl (.reg .h) s

/-- RL L (R279). -/
def execRl_L (s : State) : Result := rotOpnd .rl (.reg .l) s

/-- RL (HL) (R280). -/
def execRl_mHL (s : State) : Result := rotOpnd .rl .mHL s

/-- RL A (R279). -/
def execRl_A (s : State) : Result := rotOpnd .rl (.reg .a) s

/-- RR B (R281). -/
def execRr_B (s : State) : Result := rotOpnd .rr (.reg .b) s

/-- RR C (R281). -/
def execRr_C (s : State) : Result := rotOpnd .rr (.reg .c) s

/-- RR D (R281). -/
def execRr_D (s : State) : Result := rotOpnd .rr (.reg .d) s

/-- RR E (R281). -/
def execRr_E (s : State) : Result := rotOpnd .rr (.reg .e) s

/-- RR H (R281). -/
def execRr_H (s : State) : Result := rotOpnd .rr (.reg .h) s

/-- RR L (R281). -/
def execRr_L (s : State) : Result := rotOpnd .rr (.reg .l) s

/-- RR (HL) (R282). -/
def execRr_mHL (s : State) : Result := rotOpnd .rr .mHL s

/-- RR A (R281). -/
def execRr_A (s : State) : Result := rotOpnd .rr (.reg .a) s

/-- SLA B (R283). -/
def execSla_B (s : State) : Result := rotOpnd .sla (.reg .b) s

/-- SLA C (R283). -/
def execSla_C (s : State) : Result := rotOpnd .sla (.reg .c) s

/-- SLA D (R283). -/
def execSla_D (s : State) : Result := rotOpnd .sla (.reg .d) s

/-- SLA E (R283). -/
def execSla_E (s : State) : Result := rotOpnd .sla (.reg .e) s

/-- SLA H (R283). -/
def execSla_H (s : State) : Result := rotOpnd .sla (.reg .h) s

/-- SLA L (R283). -/
def execSla_L (s : State) : Result := rotOpnd .sla (.reg .l) s

/-- SLA (HL) (R284). -/
def execSla_mHL (s : State) : Result := rotOpnd .sla .mHL s

/-- SLA A (R283). -/
def execSla_A (s : State) : Result := rotOpnd .sla (.reg .a) s

/-- SRA B (R285). -/
def execSra_B (s : State) : Result := rotOpnd .sra (.reg .b) s

/-- SRA C (R285). -/
def execSra_C (s : State) : Result := rotOpnd .sra (.reg .c) s

/-- SRA D (R285). -/
def execSra_D (s : State) : Result := rotOpnd .sra (.reg .d) s

/-- SRA E (R285). -/
def execSra_E (s : State) : Result := rotOpnd .sra (.reg .e) s

/-- SRA H (R285). -/
def execSra_H (s : State) : Result := rotOpnd .sra (.reg .h) s

/-- SRA L (R285). -/
def execSra_L (s : State) : Result := rotOpnd .sra (.reg .l) s

/-- SRA (HL) (R286). -/
def execSra_mHL (s : State) : Result := rotOpnd .sra .mHL s

/-- SRA A (R285). -/
def execSra_A (s : State) : Result := rotOpnd .sra (.reg .a) s

/-- SWAP B (R287). -/
def execSwap_B (s : State) : Result := rotOpnd .swap (.reg .b) s

/-- SWAP C (R287). -/
def execSwap_C (s : State) : Result := rotOpnd .swap (.reg .c) s

/-- SWAP D (R287). -/
def execSwap_D (s : State) : Result := rotOpnd .swap (.reg .d) s

/-- SWAP E (R287). -/
def execSwap_E (s : State) : Result := rotOpnd .swap (.reg .e) s

/-- SWAP H (R287). -/
def execSwap_H (s : State) : Result := rotOpnd .swap (.reg .h) s

/-- SWAP L (R287). -/
def execSwap_L (s : State) : Result := rotOpnd .swap (.reg .l) s

/-- SWAP (HL) (R288). -/
def execSwap_mHL (s : State) : Result := rotOpnd .swap .mHL s

/-- SWAP A (R287). -/
def execSwap_A (s : State) : Result := rotOpnd .swap (.reg .a) s

/-- SRL B (R289). -/
def execSrl_B (s : State) : Result := rotOpnd .srl (.reg .b) s

/-- SRL C (R289). -/
def execSrl_C (s : State) : Result := rotOpnd .srl (.reg .c) s

/-- SRL D (R289). -/
def execSrl_D (s : State) : Result := rotOpnd .srl (.reg .d) s

/-- SRL E (R289). -/
def execSrl_E (s : State) : Result := rotOpnd .srl (.reg .e) s

/-- SRL H (R289). -/
def execSrl_H (s : State) : Result := rotOpnd .srl (.reg .h) s

/-- SRL L (R289). -/
def execSrl_L (s : State) : Result := rotOpnd .srl (.reg .l) s

/-- SRL (HL) (R290). -/
def execSrl_mHL (s : State) : Result := rotOpnd .srl .mHL s

/-- SRL A (R289). -/
def execSrl_A (s : State) : Result := rotOpnd .srl (.reg .a) s

end Sys2Proof.Machine
end

