-- ==== Sys2Proof/Machine/System.lean ====
section
/-! DEFINITION. NOP, HALT, STOP, DI, EI, the prefix byte and the unassigned opcodes (48_system.md, R330 to R337).
One meaning per instruction, over the shapes of Operands.lean. -/

namespace Sys2Proof.Machine

/-- NOP (R331). -/
def execNop (s : State) : Result := .next (s.charge 4)

/-- STOP (R333). The byte after the opcode is fetched and ignored. -/
def execStop (_pad : Byte) (s : State) : Result := .next ((s.setRun .stopped).charge 4)

/-- HALT (R332). The state is left by R361. -/
def execHalt (s : State) : Result := .next ((s.setRun .halted).charge 4)

/-- The prefix byte (R336). The second byte is fetched and its instruction run (log 8). -/
def execPrefix_CB (s : State) : Result := andThen s.fetch8 fun (op2, t) => runCb op2 t

/-- An unassigned opcode (R337). `pc` has been advanced past the opcode byte, so it was read one below. -/
def execIllegal (op : Byte) (s : State) : Result := .fault (.decodeFailure (s.regs.pc - 1) op)

/-- DI (R334). -/
def execDi (s : State) : Result := .next ((s.setPipe1 .clear).charge 4)

/-- EI (R335). -/
def execEi (s : State) : Result := .next ((s.setPipe1 .set).charge 4)

end Sys2Proof.Machine
end

