-- ==== Sys2Proof/Machine/Step.lean ====
section
/-! DEFINITION. One step of the machine (R360), and how the host places an instruction where the next step fetches. -/

namespace Sys2Proof.Machine

/-- `Step()` (R360). Once `fault` is set no step is defined: the fault stays (R50, log 10). -/
def step (s : State) : Host.Outcome State Fault Refusal :=
  match s.fault with
  | some f => .fault f
  | none =>
    andThen s.prepare fun s1 =>
      match s1.runState with
      | .running => andThen s1.dropOverlay.fetchInstr fun (i, s2) => finishStep (exec i s2)
      | .halted => .next s1.idle.endStep
      | .stopped => .next s1.idle.endStep

/-- The state a run is in after a step: the next state, or the same state with the fault recorded (R357, log 10). -/
def State.afterStep (s : State) : State :=
  match step s with
  | .next t => t
  | .fault f => { s with fault := some f }
  | .refused _ => s

/-- `s` with an opcode-table word stored where `step` fetches its next instruction (log 6, 7). -/
def State.withFetchWord (s : State) (nbits w : Nat) : State := s.placeBytes s.fetchAddress (tableBytes nbits w)

end Sys2Proof.Machine
end

