-- ==== Sys2Proof/Safety.lean ====
section
/-! DEFINITION. The terms claims use: the invariant of the machine, which addresses answer, and what an instruction stores
to, branches on and writes of F, read from the spec's rules and not from the meanings. -/

namespace Sys2Proof.Machine

/-! ### The invariant -/

/-- The addresses a storage cell can have: ROM, video RAM, external RAM, work RAM, OAM and high RAM (R7, R56). The echo,
the unusable range, the I/O registers and IE have none. -/
def isCell (n : Nat) : Bool :=
  decide (n < 0xE000) || (decide (0xFE00 ≤ n) && decide (n < 0xFEA0)) || (decide (0xFF80 ≤ n) && decide (n < 0xFFFF))

/-- The PPU stands where its state machine can stand: the dot below the budget, the line below 154, vertical blank from
line 144 on, LY the line or written to zero, and home while the LCD is off (R52, R99, R400, R403, R406). -/
structure Ppu.Legal (p : Ppu) : Prop where
  dot : p.dot < p.mode.budget
  line : p.line < 154
  vBlank : p.mode = .vBlank ↔ 144 ≤ p.line
  ly : p.ly = BitVec.ofNat 8 p.line ∨ p.ly = 0x00
  off : p.lcdc.getLsbD 7 = false → p.mode = .oamSearch ∧ p.dot = 0 ∧ p.line = 0 ∧ p.ly = 0x00

/-- The invariant of the machine. -/
structure State.Inv (s : State) : Prop where
  /-- Storage is in its canonical form. -/
  memWf : s.mem.wf
  /-- Only addresses that have storage are listed. -/
  cells : ∀ c ∈ s.mem, isCell c.1 = true
  /-- F's low nibble is zero at all times (R21). -/
  fLow : s.regs.f &&& 0x0F = 0
  ppu : s.ppu.Legal
  /-- The overlay is on only where there is a boot ROM (R60). -/
  overlay : s.bootOverlay = true → s.params.boot.isSome = true

/-! ### The bus -/

/-- Something is bound to an address: all but the addresses of R93 and, without EXT_RAM, external RAM (R94). -/
def mapped (extRam : Bool) (a : Word) : Bool :=
  if 0xA000 ≤ a.toNat ∧ a.toNat < 0xC000 then extRam
  else if 0xFF00 ≤ a.toNat ∧ a.toNat < 0xFF80 then (ioReg? a).isSome
  else true

/-- An access to an address does not fault (R94). -/
def State.answers (s : State) (a : Word) : Bool := !s.params.busStrict || mapped s.params.extRam a

/-- The byte a read returns where it does not fault. -/
def State.readByte (s : State) (a : Word) : Byte :=
  match s.memRead a with
  | .ok v => v
  | .error _ => 0x00

/-- The little-endian word at an address (R73). -/
def State.readWord (s : State) (a : Word) : Word := pair (s.readByte (a + 1)) (s.readByte a)

/-- The state a write leaves where it does not fault. -/
def State.wrote (s : State) (a : Word) (v : Byte) : State :=
  match s.memWrite a v with
  | .ok t => t
  | .error _ => s

/-- The state a little-endian word write leaves, low byte first (R74). -/
def State.wroteWord (s : State) (a v : Word) : State := (s.wrote a (lo v)).wrote (a + 1) (hi v)

/-- The bytes of a list stand at rising addresses from `a`, as the bus reads them. -/
def State.bytesAt (s : State) (a : Word) : List Byte → Prop
  | [] => True
  | b :: bs => s.memRead a = .ok b ∧ s.bytesAt (a + 1) bs

/-! ### What the rules say of each instruction -/

/-- The addresses an instruction stores to, but for the prefix byte (R97, files 41 to 47). -/
def Instr.stores (i : Instr) (s : State) : List Word :=
  match i with
  | .ld_mBC_A => [s.bc]
  | .ld_mnn_SP nn => [nn, nn + 1]
  | .ld_mDE_A => [s.de]
  | .ld_mHLi_A | .ld_mHLd_A | .inc_mHL | .dec_mHL | .ld_mHL_B | .ld_mHL_C | .ld_mHL_D | .ld_mHL_E | .ld_mHL_H |
    .ld_mHL_L | .ld_mHL_A | .rlc_mHL | .rrc_mHL | .rl_mHL | .rr_mHL | .sla_mHL | .sra_mHL | .swap_mHL | .srl_mHL |
    .res_0_mHL | .res_1_mHL | .res_2_mHL | .res_3_mHL | .res_4_mHL | .res_5_mHL | .res_6_mHL | .res_7_mHL |
    .set_0_mHL | .set_1_mHL | .set_2_mHL | .set_3_mHL | .set_4_mHL | .set_5_mHL | .set_6_mHL | .set_7_mHL => [s.hl]
  | .ld_mHL_n _ => [s.hl]
  | .call_NZ_nn _ => if s.holds .nz then [s.regs.sp - 2, s.regs.sp - 1] else []
  | .push_BC | .rst_00 | .rst_08 | .push_DE | .rst_10 | .rst_18 | .push_HL | .rst_20 | .rst_28 | .push_AF |
    .rst_30 | .rst_38 => [s.regs.sp - 2, s.regs.sp - 1]
  | .call_nn _ => [s.regs.sp - 2, s.regs.sp - 1]
  | .call_Z_nn _ => if s.holds .z then [s.regs.sp - 2, s.regs.sp - 1] else []
  | .call_NC_nn _ => if s.holds .nc then [s.regs.sp - 2, s.regs.sp - 1] else []
  | .call_C_nn _ => if s.holds .c then [s.regs.sp - 2, s.regs.sp - 1] else []
  | .ldh_mn_A n => [highPage n]
  | .ld_mC_A => [highPage s.regs.c]
  | .ld_mnn_A nn => [nn]
  | _ => []

/-- The addresses an instruction stores to. The prefix byte runs the instruction its second byte selects (R336). -/
def storeSpan (i : Instr) (s : State) : List Word :=
  match i with
  | .prefix_CB =>
    match s.fetch8 with
    | .ok (op2, t) => Instr.stores (decodeCb op2) t
    | .error _ => []
  | j => Instr.stores j s

/-- A jump, call, return or restart that is taken (R136, file 47). -/
def takesBranch (i : Instr) (s : State) : Bool :=
  match i with
  | .jr_e _ | .jp_nn _ | .rst_00 | .ret | .call_nn _ | .rst_08 | .rst_10 | .reti | .rst_18 | .rst_20 | .jp_HL |
    .rst_28 | .rst_30 | .rst_38 => true
  | .jr_NZ_e _ | .ret_NZ | .jp_NZ_nn _ | .call_NZ_nn _ => s.holds .nz
  | .jr_Z_e _ | .ret_Z | .jp_Z_nn _ | .call_Z_nn _ => s.holds .z
  | .jr_NC_e _ | .ret_NC | .jp_NC_nn _ | .call_NC_nn _ => s.holds .nc
  | .jr_C_e _ | .ret_C | .jp_C_nn _ | .call_C_nn _ => s.holds .c
  | _ => false

/-- The flags an instruction may write: the column of R30. -/
def writesFlags (i : Instr) : Flags :=
  match i with
  | .inc_B | .dec_B | .inc_C | .dec_C | .inc_D | .dec_D | .inc_E | .dec_E | .inc_H | .dec_H | .inc_L | .dec_L |
    .inc_mHL | .dec_mHL | .inc_A | .dec_A | .bit_0_B | .bit_0_C | .bit_0_D | .bit_0_E | .bit_0_H | .bit_0_L |
    .bit_0_mHL | .bit_0_A | .bit_1_B | .bit_1_C | .bit_1_D | .bit_1_E | .bit_1_H | .bit_1_L | .bit_1_mHL | .bit_1_A
    | .bit_2_B | .bit_2_C | .bit_2_D | .bit_2_E | .bit_2_H | .bit_2_L | .bit_2_mHL | .bit_2_A | .bit_3_B | .bit_3_C
    | .bit_3_D | .bit_3_E | .bit_3_H | .bit_3_L | .bit_3_mHL | .bit_3_A | .bit_4_B | .bit_4_C | .bit_4_D | .bit_4_E
    | .bit_4_H | .bit_4_L | .bit_4_mHL | .bit_4_A | .bit_5_B | .bit_5_C | .bit_5_D | .bit_5_E | .bit_5_H | .bit_5_L
    | .bit_5_mHL | .bit_5_A | .bit_6_B | .bit_6_C | .bit_6_D | .bit_6_E | .bit_6_H | .bit_6_L | .bit_6_mHL |
    .bit_6_A | .bit_7_B | .bit_7_C | .bit_7_D | .bit_7_E | .bit_7_H | .bit_7_L | .bit_7_mHL | .bit_7_A => ⟨true,
    true, true, false⟩
  | .rlca | .rrca | .rla | .rra | .add_A_B | .add_A_C | .add_A_D | .add_A_E | .add_A_H | .add_A_L | .add_A_mHL |
    .add_A_A | .adc_A_B | .adc_A_C | .adc_A_D | .adc_A_E | .adc_A_H | .adc_A_L | .adc_A_mHL | .adc_A_A | .sub_B |
    .sub_C | .sub_D | .sub_E | .sub_H | .sub_L | .sub_mHL | .sub_A | .sbc_A_B | .sbc_A_C | .sbc_A_D | .sbc_A_E |
    .sbc_A_H | .sbc_A_L | .sbc_A_mHL | .sbc_A_A | .and_B | .and_C | .and_D | .and_E | .and_H | .and_L | .and_mHL |
    .and_A | .xor_B | .xor_C | .xor_D | .xor_E | .xor_H | .xor_L | .xor_mHL | .xor_A | .or_B | .or_C | .or_D | .or_E
    | .or_H | .or_L | .or_mHL | .or_A | .cp_B | .cp_C | .cp_D | .cp_E | .cp_H | .cp_L | .cp_mHL | .cp_A | .add_A_n _
    | .prefix_CB | .adc_A_n _ | .sub_n _ | .sbc_A_n _ | .and_n _ | .add_SP_e _ | .xor_n _ | .pop_AF | .or_n _ |
    .ld_HL_SPe _ | .cp_n _ | .rlc_B | .rlc_C | .rlc_D | .rlc_E | .rlc_H | .rlc_L | .rlc_mHL | .rlc_A | .rrc_B |
    .rrc_C | .rrc_D | .rrc_E | .rrc_H | .rrc_L | .rrc_mHL | .rrc_A | .rl_B | .rl_C | .rl_D | .rl_E | .rl_H | .rl_L |
    .rl_mHL | .rl_A | .rr_B | .rr_C | .rr_D | .rr_E | .rr_H | .rr_L | .rr_mHL | .rr_A | .sla_B | .sla_C | .sla_D |
    .sla_E | .sla_H | .sla_L | .sla_mHL | .sla_A | .sra_B | .sra_C | .sra_D | .sra_E | .sra_H | .sra_L | .sra_mHL |
    .sra_A | .swap_B | .swap_C | .swap_D | .swap_E | .swap_H | .swap_L | .swap_mHL | .swap_A | .srl_B | .srl_C |
    .srl_D | .srl_E | .srl_H | .srl_L | .srl_mHL | .srl_A => ⟨true, true, true, true⟩
  | .add_HL_BC | .add_HL_DE | .add_HL_HL | .scf | .add_HL_SP | .ccf => ⟨false, true, true, true⟩
  | .daa => ⟨true, false, true, true⟩
  | .cpl => ⟨false, true, true, false⟩
  | _ => ⟨false, false, false, false⟩

end Sys2Proof.Machine
end

