-- ==== Sys2Proof/Certificates/Slice0/Obligations.lean ====
section
/-! DEFINITION. The statements for the provers. The helpers of `Sys2Proof.Claims` say the formulas of the spec over
numbers, apart from the definitions the machine runs.

What these statements take from decisions and not from the source document: every number of cycles is that of R450, the
spec's decision D27 (log 15); the opcodes and most instruction bodies are the spec's general knowledge (log 16). -/

namespace Sys2Proof.Claims

open Sys2Proof.Machine

/-! ### Formulas of the spec -/

/-- The byte of four flags: Z 128, N 64, H 32, C 16 (R21). -/
def flagByte (z n h c : Bool) : Byte := BitVec.ofNat 8 (128 * z.toNat + 64 * n.toNat + 32 * h.toNat + 16 * c.toNat)

/-- A bit of a number. -/
def bit (x i : Nat) : Nat := x / 2 ^ i % 2

/-- The result and the F byte of `alu(y)` on numbers `a`, `b` below 256 and carry `c` (R151 to R157, R174). -/
def aluSpec (op : AluOp) (a b c : Nat) : Nat × Byte :=
  match op with
  | .add => ((a + b) % 256, flagByte ((a + b) % 256 == 0) false (decide (a % 16 + b % 16 > 15)) (decide (a + b > 255)))
  | .adc =>
    ((a + b + c) % 256,
      flagByte ((a + b + c) % 256 == 0) false (decide (a % 16 + b % 16 + c > 15)) (decide (a + b + c > 255)))
  | .sub =>
    ((256 + a - b) % 256, flagByte ((256 + a - b) % 256 == 0) true (decide (a % 16 < b % 16)) (decide (a < b)))
  | .sbc =>
    ((512 + a - b - c) % 256,
      flagByte ((512 + a - b - c) % 256 == 0) true (decide (a % 16 < b % 16 + c)) (decide (a < b + c)))
  | .and => (a &&& b, flagByte (a &&& b == 0) false true false)
  | .xor => (a ^^^ b, flagByte (a ^^^ b == 0) false false false)
  | .or => (a ||| b, flagByte (a ||| b == 0) false false false)
  | .cp => (a, flagByte (a == b) true (decide (a % 16 < b % 16)) (decide (a < b)))

/-- The result and the bit shifted out of `rot(y)` on a number `a` below 256 and carry `c` (R160 to R167). -/
def rotSpec (op : RotOp) (a c : Nat) : Nat × Nat :=
  match op with
  | .rlc => (2 * a % 256 + bit a 7, bit a 7)
  | .rrc => (a / 2 + 128 * bit a 0, bit a 0)
  | .rl => (2 * a % 256 + c, bit a 7)
  | .rr => (a / 2 + 128 * c, bit a 0)
  | .sla => (2 * a % 256, bit a 7)
  | .sra => (a / 2 + 128 * bit a 7, bit a 0)
  | .swap => (a % 16 * 16 + a / 16, 0)
  | .srl => (a / 2, bit a 0)

/-- The F byte after a rotate or shift whose Z is `z` (R160 to R167). -/
def rotFlags (z : Bool) (out : Nat) : Byte := flagByte z false false (out == 1)

/-- The H and C of SP+e: the carries of the low byte (R172). -/
def lowCarries (sp : Word) (e : Byte) : Byte :=
  flagByte false false (decide (sp.toNat % 16 + e.toNat % 16 > 15)) (decide (sp.toNat % 256 + e.toNat > 255))

/-- SP plus the byte as two's complement, modulo 2^16 (R15, R172). -/
def spPlus (sp : Word) (e : Byte) : Word := BitVec.ofInt 16 (sp.toNat + e.toInt)

/-- The address 0xFF00 + n (R191 to R194). -/
def highAddr (n : Byte) : Word := BitVec.ofNat 16 (0xFF00 + n.toNat)

/-- A number below 100 as two decimal digits in a byte. -/
def bcd (n : Nat) : Byte := BitVec.ofNat 8 (n / 10 * 16 + n % 10)

/-- The state with A and F written and `n` cycles charged, nothing else changed. -/
def withAF (s : State) (a f : Byte) (n : Nat) : State :=
  { s with regs := { s.regs with a := a, f := f }, cycles := s.cycles + n }

/-- The state with F written and `n` cycles charged, nothing else changed. -/
def withF (s : State) (f : Byte) (n : Nat) : State :=
  { s with regs := { s.regs with f := f }, cycles := s.cycles + n }

/-- The state with pc written and `n` cycles charged, nothing else changed. -/
def withPC (s : State) (a : Word) (n : Nat) : State :=
  { s with regs := { s.regs with pc := a }, cycles := s.cycles + n }

/-- The carry flag as a number (R15). -/
def carry (s : State) : Nat := s.flags.c.toNat

/-- The state an `alu(y)` instruction leaves for second operand `b`: A and F by the formulas, `n` cycles. -/
def aluLeaves (op : AluOp) (s : State) (b : Byte) (n : Nat) : State :=
  withAF s (BitVec.ofNat 8 (aluSpec op s.regs.a.toNat b.toNat (carry s)).1)
    (aluSpec op s.regs.a.toNat b.toNat (carry s)).2 n

/-- The state after one storage-free host-visible write of IF: the five stored bits. -/
def withIf (s : State) (v : BitVec 5) : State := { s with int := { s.int with if_ := v } }

/-- `ImeRetire()` (R376): slot 0 acts on IME, slot 1 moves into it, slot 1 is empty. -/
def retired (t : State) : State :=
  { t with
    int := { t.int with
      ime := (match t.int.pipe0 with
        | .none => t.int.ime
        | .set => true
        | .clear => false),
      pipe0 := t.int.pipe1,
      pipe1 := .none } }

/-- Lines 5 to 7 of R360: timer, then PPU take the cycles unless the core is stopped; the clock takes them always. -/
def settled (t : State) : State :=
  { (if t.runState = .stopped then t else (t.timerAdvance t.cycles).ppuAdvance t.cycles) with
    clock := t.clock + t.cycles }

/-- The row of an emitted line, if the output is one. -/
def lineOf : Output → Option Nat
  | .drawLine y _ => some y
  | .frameComplete => none
  | .blank => none

/-- How often bit `b` of a counter goes from 0 to 1 while it counts from `d` to `d + n` (R385). -/
def risingEdges (b d n : Nat) : Nat := (d + n + 2 ^ b) / 2 ^ (b + 1) - (d + 2 ^ b) / 2 ^ (b + 1)

/-- The address of each I/O register (R84). -/
def ioAddress : IoReg → Word
  | .p1 => 0xFF00
  | .div => 0xFF04
  | .tima => 0xFF05
  | .tma => 0xFF06
  | .tac => 0xFF07
  | .if_ => 0xFF0F
  | .lcdc => 0xFF40
  | .stat => 0xFF41
  | .scy => 0xFF42
  | .scx => 0xFF43
  | .ly => 0xFF44
  | .lyc => 0xFF45
  | .dma => 0xFF46
  | .bgp => 0xFF47
  | .obp0 => 0xFF48
  | .obp1 => 0xFF49
  | .wy => 0xFF4A
  | .wx => 0xFF4B

/-- The mode bits of STAT as a number (R400, R401). -/
def modeNumber : PpuMode → Nat
  | .oamSearch => 2
  | .pixelTransfer => 3
  | .hBlank => 0
  | .vBlank => 1

/-- What each I/O register reads as, from the state that holds it (R84). -/
def ioHolds (s : State) : IoReg → Byte
  | .p1 => 0xC0 ||| (s.joy.p1Sel.setWidth 8 <<< 4) ||| (joyNibble s.joy).setWidth 8
  | .div => BitVec.ofNat 8 (s.timer.div.toNat / 256)
  | .tima => s.timer.tima
  | .tma => s.timer.tma
  | .tac => 0xF8 ||| s.timer.tac.setWidth 8
  | .if_ => 0xE0 ||| s.int.if_.setWidth 8
  | .lcdc => s.ppu.lcdc
  | .stat => 0x80 ||| (s.ppu.statSel.setWidth 8 <<< 3) ||| BitVec.ofNat 8 (modeNumber s.ppu.mode)
  | .scy => s.ppu.scy
  | .scx => s.ppu.scx
  | .ly => s.ppu.ly
  | .lyc => s.ppu.lyc
  | .dma => s.ppu.dma
  | .bgp => s.ppu.bgp
  | .obp0 => s.ppu.obp0
  | .obp1 => s.ppu.obp1
  | .wy => s.ppu.wy
  | .wx => s.ppu.wx

/-- The value an I/O register reads as after a CPU write of `v` to it, where the state was `s` (R84, R85): the stored bits
as written, the others as the read rule has them. -/
def ioAfterWrite (s : State) (r : IoReg) (v : Byte) : Byte :=
  match r with
  | .p1 => (v &&& 0x30) ||| 0xC0 ||| (joyNibble { s.joy with p1Sel := v.extractLsb' 4 2 }).setWidth 8
  | .div => 0x00
  | .tac => v ||| 0xF8
  | .if_ => v ||| 0xE0
  | .stat => (v &&& 0x78) ||| 0x80 ||| BitVec.ofNat 8 (modeNumber s.ppu.mode)
  | .ly => 0x00
  | .tima => v
  | .tma => v
  | .lcdc => v
  | .scy => v
  | .scx => v
  | .lyc => v
  | .dma => v
  | .bgp => v
  | .obp0 => v
  | .obp1 => v
  | .wy => v
  | .wx => v

/-! ### Pixels -/

/-- Bit `b` of the two planes of a tile row at address `a`, the low plane first (R415, R417). -/
def planes (s : State) (a b : Nat) : Nat := bit (s.mem.get a).toNat b + 2 * bit (s.mem.get (a + 1)).toNat b

/-- `TileColour(map, px, py)` (R415): the set of LCDC bit 4, unsigned from 0x8000 or signed from 0x9000. -/
def tileIndex (s : State) (map px py : Nat) : Nat :=
  let t := (s.mem.get (map + 32 * (py / 8) + px / 8)).toNat
  let base := if s.ppu.lcdc.getLsbD 4 ∨ 128 ≤ t then 0x8000 + 16 * t else 0x9000 + 16 * t
  planes s (base + 2 * (py % 8)) (7 - px % 8)

/-- The colour index below the sprites (R414 to R416): the window where it covers, else the scrolled background, else 0. -/
def below (s : State) (x y : Nat) : Nat :=
  let map := fun k : Nat => if s.ppu.lcdc.getLsbD k then 0x9C00 else 0x9800
  if s.ppu.lcdc.getLsbD 0 = false then 0
  else if s.ppu.lcdc.getLsbD 5 = true ∧ s.ppu.wy.toNat ≤ y ∧ s.ppu.wx.toNat ≤ x + 7 then
    tileIndex s (map 6) (x + 7 - s.ppu.wx.toNat) (y - s.ppu.wy.toNat)
  else tileIndex s (map 3) ((x + s.ppu.scx.toNat) % 256) ((y + s.ppu.scy.toNat) % 256)

/-- The shade a palette gives a colour index (R44). -/
def paletteShade (pal : Byte) (ci : Nat) : BitVec 2 := BitVec.ofNat 2 (pal.toNat / 4 ^ ci)

/-- Byte `i` of sprite record `k`: 0 is Y, 1 is X, 2 the tile, 3 the attributes (R417). -/
def oamByte (s : State) (k i : Nat) : Byte := s.mem.get (0xFE00 + 4 * k + i)

/-- The height of a sprite: LCDC bit 2 (R417). -/
def tall (s : State) : Nat := if s.ppu.lcdc.getLsbD 2 then 16 else 8

/-- Record `k` reaches line `y` (R417). -/
def reaches (s : State) (y k : Nat) : Bool :=
  decide ((oamByte s k 0).toNat ≤ y + 16 ∧ y + 16 < (oamByte s k 0).toNat + tall s)

/-- Record `k` is one of the first ten, in OAM order, that reach line `y` (R417). -/
def chosen (s : State) (y k : Nat) : Prop :=
  k < 40 ∧ reaches s y k = true ∧ ((List.range k).filter (reaches s y)).length < 10

/-- The colour index of record `k` at a pixel, 0 where it is transparent or does not cover the column (R417). -/
def spriteIndex (s : State) (x y k : Nat) : Nat :=
  let left := (oamByte s k 1).toNat
  let row := y + 16 - (oamByte s k 0).toNat
  let r := if (oamByte s k 3).getLsbD 6 then tall s - 1 - row else row
  let t := if s.ppu.lcdc.getLsbD 2 then (oamByte s k 2).toNat / 2 * 2 else (oamByte s k 2).toNat
  let c := x + 8 - left
  if left ≤ x + 8 ∧ x < left then
    planes s (0x8000 + 16 * t + 2 * r) (if (oamByte s k 3).getLsbD 5 then c else 7 - c)
  else 0

end Sys2Proof.Claims

open Sys2Proof Sys2Proof.Machine Sys2Proof.Claims

/-! ### Encoding and decoding -/

/-- Decoding the bytes of a well-formed instruction gives it back, whatever follows, with every operand value. -/
def Obligations.DecodeOfEncode : Prop :=
  ∀ (i : Instr) (rest : List Byte), i.wellFormed = true → decode (encode i ++ rest) = .ok i rest

/-- What the decoder accepts is the encoding of what it answers, and the length is 1, 2 or 3 (R120, R122). -/
def Obligations.EncodeOfDecode : Prop :=
  ∀ (bs : List Byte) (i : Instr) (rest : List Byte), decode bs = .ok i rest →
    bs = encode i ++ rest ∧ 1 ≤ (encode i).length ∧ (encode i).length ≤ 3

/-- Words written out from the encodings of files 41 to 48, one or more of each family. -/
def Obligations.DecodedWords : Prop :=
  decode [0b01000001] = .ok .ld_B_C [] ∧ decode [0b00000110, 0x0F] = .ok (.ld_B_n 0x0F) [] ∧
  decode [0b01110000] = .ok .ld_mHL_B [] ∧ decode [0xE0, 0x40] = .ok (.ldh_mn_A 0x40) [] ∧
  decode [0x01, 0x32, 0x01] = .ok (.ld_BC_nn 0x0132) [] ∧ decode [0b11110101] = .ok .push_AF [] ∧
  decode [0b10000000] = .ok .add_A_B [] ∧ decode [0b10101111] = .ok .xor_A [] ∧
  decode [0b00111001] = .ok .add_HL_SP [] ∧ decode [0xF8, 0x08] = .ok (.ld_HL_SPe 0x08) [] ∧
  decode [0xCB, 0b00111111] = .ok .srl_A [] ∧ decode [0xCB, 0b01111100] = .ok .bit_7_H [] ∧
  decode [0xCB, 0b10011110] = .ok .res_3_mHL [] ∧ decode [0xCD, 0x40, 0x01] = .ok (.call_nn 0x0140) [] ∧
  decode [0b00100000, 0xFC] = .ok (.jr_NZ_e 0xFC) [] ∧ decode [0b01110110] = .ok .halt [] ∧
  decode [0xDD] = .ok (.illegal 0xDD) []

/-- The unassigned opcodes are exactly the eleven of R134; as a second byte after the prefix none is. -/
def Obligations.UnassignedOpcodes : Prop :=
  (∀ op b1 b2 : Byte, (∃ x, decodeOp op b1 b2 = .illegal x) ↔
    (op = 0xD3 ∨ op = 0xDB ∨ op = 0xDD ∨ op = 0xE3 ∨ op = 0xE4 ∨ op = 0xEB ∨ op = 0xEC ∨ op = 0xED ∨ op = 0xF4 ∨
      op = 0xFC ∨ op = 0xFD)) ∧
  (∀ op b1 b2 x : Byte, decodeOp op b1 b2 = .illegal x → x = op) ∧
  (∀ op2 x : Byte, decodeCb op2 ≠ .illegal x)

/-- A step runs the decoded instruction. Lines 1 to 3 of R360 give `s1`, which is running; at pc 0x0100 the overlay goes
(R362, decision D18 of the spec, log 16); the bytes at pc, read after that, decode to `i`. Then the step is `exec i` with
pc behind the bytes, followed by the retirement and lines 5 to 7, or its fault; and after a step that completes the
overlay is off if it ran the instruction at 0x0100, else as it was (R49). -/
def Obligations.StepRunsDecoded : Prop :=
  ∀ (s s1 : State) (i : Instr) (bs : List Byte), s.fault = none → s.prepare = .ok s1 → s1.runState = .running →
    decode bs = .ok i [] → i.wellFormed = true →
    let s2 : State := { s1 with bootOverlay := if s1.regs.pc = 0x0100 then false else s.bootOverlay }
    s2.bytesAt s1.regs.pc bs →
    step s =
        (match exec i (s2.setPC (s1.regs.pc + BitVec.ofNat 16 bs.length)) with
          | .next t => .next (settled (retired t))
          | .fault f => .fault f
          | .refused r => .refused r) ∧
      ∀ t : State, step s = .next t → t.bootOverlay = if s1.regs.pc = 0x0100 then false else s.bootOverlay

/-- The fetch puts pc behind the instruction, and no instruction but a taken jump, call, return or restart moves it
further; the length is that of the opcode's format: `OP` 1, `OP_N` 2, `OP_E` 2, `OP_NN` 3, `CB` 2 (R136). -/
def Obligations.PcAdvancesByLength : Prop :=
  (∀ (s s2 t : State) (i : Instr), s.fetchInstr = .ok (i, s2) → exec i s2 = .next t → takesBranch i s2 = false →
    t.regs.pc = s.regs.pc + BitVec.ofNat 16 (encode i).length) ∧
  (∀ op b1 b2 : Byte, (encode (decodeOp op b1 b2)).length =
    match formatOf op with
    | .op => 1
    | .opN => 2
    | .opE => 2
    | .opNN => 3
    | .cb => 2)

/-! ### Loads -/

/-- LD r,r', LD r,n, LD rr,nn and LD SP,HL, every register (R180, R181, R210, R212): the destination takes the value,
nothing else changes, 4, 8, 12 and 8 cycles. -/
def Obligations.LoadRegister : Prop :=
  (∀ (dst src : Reg8) (s : State),
    exec (ldInstr (.reg dst) (.reg src)) s = .next { s.setReg dst (s.reg src) with cycles := s.cycles + 4 }) ∧
  (∀ (dst : Reg8) (n : Byte) (s : State),
    exec (ldImmInstr n (.reg dst)) s = .next { s.setReg dst n with cycles := s.cycles + 8 }) ∧
  (∀ (p : Reg16) (nn : Word) (s : State),
    exec (ld16Instr nn p) s = .next { s.setReg16 p nn with cycles := s.cycles + 12 }) ∧
  (∀ s : State, exec .ld_SP_HL s = .next { s.setSP s.hl with cycles := s.cycles + 8 })

/-- Loads from memory: the byte the bus gives at the address, where the address answers; nothing else changes but HL in
the stepping forms (R182, R185, R186, R189, R192, R194, R196, R198). -/
def Obligations.LoadFromMemory : Prop :=
  ∀ s : State,
    (∀ dst : Reg8, s.answers s.hl = true →
      exec (ldInstr (.reg dst) .mHL) s = .next { s.setReg dst (s.readByte s.hl) with cycles := s.cycles + 8 }) ∧
    (s.answers s.bc = true →
      exec .ld_A_mBC s = .next { s.setReg .a (s.readByte s.bc) with cycles := s.cycles + 8 }) ∧
    (s.answers s.de = true →
      exec .ld_A_mDE s = .next { s.setReg .a (s.readByte s.de) with cycles := s.cycles + 8 }) ∧
    (∀ nn : Word, s.answers nn = true →
      exec (.ld_A_mnn nn) s = .next { s.setReg .a (s.readByte nn) with cycles := s.cycles + 16 }) ∧
    (∀ n : Byte, s.answers (highAddr n) = true →
      exec (.ldh_A_mn n) s = .next { s.setReg .a (s.readByte (highAddr n)) with cycles := s.cycles + 12 }) ∧
    (s.answers (highAddr s.regs.c) = true →
      exec .ld_A_mC s = .next { s.setReg .a (s.readByte (highAddr s.regs.c)) with cycles := s.cycles + 8 }) ∧
    (s.answers s.hl = true →
      exec .ld_A_mHLi s =
        .next { (s.setReg .a (s.readByte s.hl)).setHL (s.hl + 1) with cycles := s.cycles + 8 }) ∧
    (s.answers s.hl = true →
      exec .ld_A_mHLd s =
        .next { (s.setReg .a (s.readByte s.hl)).setHL (s.hl - 1) with cycles := s.cycles + 8 })

/-- Stores of one byte: one bus write at the address, where it answers; no register but HL in the stepping forms (R183,
R184, R187, R188, R190, R191, R193, R195, R197). -/
def Obligations.StoreByte : Prop :=
  ∀ s : State,
    (∀ src : Reg8, s.answers s.hl = true →
      exec (ldInstr .mHL (.reg src)) s = .next ((s.wrote s.hl (s.reg src)).charge 8)) ∧
    (∀ n : Byte, s.answers s.hl = true → exec (.ld_mHL_n n) s = .next ((s.wrote s.hl n).charge 12)) ∧
    (s.answers s.bc = true → exec .ld_mBC_A s = .next ((s.wrote s.bc s.regs.a).charge 8)) ∧
    (s.answers s.de = true → exec .ld_mDE_A s = .next ((s.wrote s.de s.regs.a).charge 8)) ∧
    (∀ nn : Word, s.answers nn = true → exec (.ld_mnn_A nn) s = .next ((s.wrote nn s.regs.a).charge 16)) ∧
    (∀ n : Byte, s.answers (highAddr n) = true →
      exec (.ldh_mn_A n) s = .next ((s.wrote (highAddr n) s.regs.a).charge 12)) ∧
    (s.answers (highAddr s.regs.c) = true →
      exec .ld_mC_A s = .next ((s.wrote (highAddr s.regs.c) s.regs.a).charge 8)) ∧
    (s.answers s.hl = true → exec .ld_mHLi_A s = .next (((s.wrote s.hl s.regs.a).setHL (s.hl + 1)).charge 8)) ∧
    (s.answers s.hl = true → exec .ld_mHLd_A s = .next (((s.wrote s.hl s.regs.a).setHL (s.hl - 1)).charge 8))

/-- A pair is a view of its two registers: after a write to the pair each half is the half of the value and the pair reads
back, and no other register changes (R22). -/
def Obligations.PairsAreViews : Prop :=
  ∀ (s : State) (v : Word),
    s.bc.toNat = 256 * s.regs.b.toNat + s.regs.c.toNat ∧ s.de.toNat = 256 * s.regs.d.toNat + s.regs.e.toNat ∧
    s.hl.toNat = 256 * s.regs.h.toNat + s.regs.l.toNat ∧
    (s.setReg16 .bc v).regs = { s.regs with b := BitVec.ofNat 8 (v.toNat / 256), c := BitVec.ofNat 8 v.toNat } ∧
    (s.setReg16 .de v).regs = { s.regs with d := BitVec.ofNat 8 (v.toNat / 256), e := BitVec.ofNat 8 v.toNat } ∧
    (s.setReg16 .hl v).regs = { s.regs with h := BitVec.ofNat 8 (v.toNat / 256), l := BitVec.ofNat 8 v.toNat } ∧
    (s.setReg16 .bc v).bc = v ∧ (s.setReg16 .de v).de = v ∧ (s.setReg16 .hl v).hl = v

/-- LD (nn),SP and PUSH rr: two byte writes, low byte first; PUSH first moves SP down by 2, and PUSH AF masks F (R211,
R214, R28). -/
def Obligations.StackStores : Prop :=
  (∀ (nn : Word) (s : State), s.answers nn = true → s.answers (nn + 1) = true →
    exec (.ld_mnn_SP nn) s = .next ((s.wroteWord nn s.regs.sp).charge 20)) ∧
  (∀ (p : StkReg) (s : State), s.answers (s.regs.sp - 2) = true → s.answers (s.regs.sp - 1) = true →
    exec (pushInstr p) s =
      .next (((s.setSP (s.regs.sp - 2)).wroteWord (s.regs.sp - 2)
        (match p with
          | .bc => s.regs.b ++ s.regs.c
          | .de => s.regs.d ++ s.regs.e
          | .hl => s.regs.h ++ s.regs.l
          | .af => s.regs.a ++ (s.regs.f &&& 0xF0))).charge 16))

/-- POP rr: the little-endian word at SP, then SP goes up by 2; POP AF masks F (R215, R29). -/
def Obligations.PopPair : Prop :=
  ∀ (p : StkReg) (s : State), s.answers s.regs.sp = true → s.answers (s.regs.sp + 1) = true →
    exec (popInstr p) s =
      .next (match p with
        | .bc => { s with
            regs := { s.regs with b := s.readByte (s.regs.sp + 1), c := s.readByte s.regs.sp, sp := s.regs.sp + 2 },
            cycles := s.cycles + 12 }
        | .de => { s with
            regs := { s.regs with d := s.readByte (s.regs.sp + 1), e := s.readByte s.regs.sp, sp := s.regs.sp + 2 },
            cycles := s.cycles + 12 }
        | .hl => { s with
            regs := { s.regs with h := s.readByte (s.regs.sp + 1), l := s.readByte s.regs.sp, sp := s.regs.sp + 2 },
            cycles := s.cycles + 12 }
        | .af => { s with
            regs := { s.regs with
              a := s.readByte (s.regs.sp + 1), f := s.readByte s.regs.sp &&& 0xF0, sp := s.regs.sp + 2 },
            cycles := s.cycles + 12 })

/-- A push followed by a pop on plain RAM gives the value back and SP as it was: the two bytes below SP lie in work RAM,
its echo or high RAM (R29). -/
def Obligations.PushThenPop : Prop :=
  ∀ (s : State) (w : Word), s.mem.wf → 0xC002 ≤ s.regs.sp.toNat → s.regs.sp.toNat ≤ 0xFE00 ∨
      (0xFF82 ≤ s.regs.sp.toNat ∧ s.regs.sp.toNat ≤ 0xFFFF) →
    ∃ t u : State, s.push16 w = .ok t ∧ t.pop16 = .ok (w, u) ∧ u.regs = s.regs

/-! ### 8-bit arithmetic and logic -/

/-- ADD, SUB, AND, XOR and OR on a register, the byte at HL and an immediate: result, flags, cost, and nothing else
changes (R151, R155, R156, R157, R220). -/
def Obligations.AddSubLogic : Prop :=
  ∀ (op : AluOp) (s : State), op = .add ∨ op = .sub ∨ op = .and ∨ op = .xor ∨ op = .or →
    (∀ r : Reg8, exec (aluInstr op (.reg r)) s = .next (aluLeaves op s (s.reg r) 4)) ∧
    (s.answers s.hl = true → exec (aluInstr op .mHL) s = .next (aluLeaves op s (s.readByte s.hl) 8)) ∧
    (∀ n : Byte, exec (aluImmInstr n op) s = .next (aluLeaves op s n 8))

/-- ADC, SBC and CP on a register, the byte at HL and an immediate (R152, R154, R174: the spec's own reading). -/
def Obligations.CarryAndCompare : Prop :=
  ∀ (op : AluOp) (s : State), op = .adc ∨ op = .sbc ∨ op = .cp →
    (∀ r : Reg8, exec (aluInstr op (.reg r)) s = .next (aluLeaves op s (s.reg r) 4)) ∧
    (s.answers s.hl = true → exec (aluInstr op .mHL) s = .next (aluLeaves op s (s.readByte s.hl) 8)) ∧
    (∀ n : Byte, exec (aluImmInstr n op) s = .next (aluLeaves op s n 8))

/-- INC and DEC of a register and of the byte at HL: result, Z, N, H, and C kept (R245 to R248, R158, R159). -/
def Obligations.IncDec : Prop :=
  ∀ s : State,
    (∀ r : Reg8,
      exec (incInstr (.reg r)) s =
        .next (withF (s.setReg r (s.reg r + 1))
          (flagByte (decide (s.reg r = 0xFF)) false (decide ((s.reg r).toNat % 16 = 15)) s.flags.c) 4)) ∧
    (∀ r : Reg8,
      exec (decInstr (.reg r)) s =
        .next (withF (s.setReg r (s.reg r - 1))
          (flagByte (decide (s.reg r = 0x01)) true (decide ((s.reg r).toNat % 16 = 0)) s.flags.c) 4)) ∧
    (s.answers s.hl = true →
      exec .inc_mHL s =
        .next (withF (s.wrote s.hl (s.readByte s.hl + 1))
          (flagByte (decide (s.readByte s.hl = 0xFF)) false (decide ((s.readByte s.hl).toNat % 16 = 15)) s.flags.c)
          12)) ∧
    (s.answers s.hl = true →
      exec .dec_mHL s =
        .next (withF (s.wrote s.hl (s.readByte s.hl - 1))
          (flagByte (decide (s.readByte s.hl = 0x01)) true (decide ((s.readByte s.hl).toNat % 16 = 0)) s.flags.c)
          12))

/-- DAA by the formula of R173 over numbers, N kept. -/
def Obligations.DecimalAdjust : Prop :=
  ∀ s : State,
    let a := s.regs.a.toNat
    let high := if s.flags.n then s.flags.c else s.flags.c || decide (a > 0x99)
    let low := if s.flags.n then s.flags.h else s.flags.h || decide (a % 16 > 9)
    let adjust := (if high then 0x60 else 0) + (if low then 0x06 else 0)
    let r := if s.flags.n then (512 + a - adjust) % 256 else (a + adjust) % 256
    exec .daa s = .next (withAF s (BitVec.ofNat 8 r) (flagByte (r == 0) s.flags.n false high) 4)

/-- DAA after ADD or ADC of two numbers of two decimal digits gives the decimal sum, and C the hundred; after SUB or SBC
the decimal difference modulo 100, and C the borrow (R173). -/
def Obligations.DecimalSumAndDifference : Prop :=
  ∀ (s t u : State) (x y : Nat), x < 100 → y < 100 → s.regs.a = bcd x →
    (exec (.adc_A_n (bcd y)) s = .next t → exec .daa t = .next u →
      u.regs.a = bcd ((x + y + carry s) % 100) ∧ u.flags.c = decide (x + y + carry s ≥ 100)) ∧
    (exec (.sbc_A_n (bcd y)) s = .next t → exec .daa t = .next u →
      u.regs.a = bcd ((200 + x - y - carry s) % 100) ∧ u.flags.c = decide (x < y + carry s))

/-- CPL, SCF and CCF: what they write of A and F, and that Z (and for CPL C) is kept (R250, R251, R252). -/
def Obligations.ComplementAndCarry : Prop :=
  ∀ s : State,
    exec .cpl s = .next (withAF s (BitVec.ofNat 8 (255 - s.regs.a.toNat)) (flagByte s.flags.z true true s.flags.c) 4) ∧
    exec .scf s = .next (withF s (flagByte s.flags.z false false true) 4) ∧
    exec .ccf s = .next (withF s (flagByte s.flags.z false false (!s.flags.c)) 4)

/-! ### 16-bit arithmetic -/

/-- ADD HL,rr: the sum modulo 2^16, H from bit 11, C from bit 15, Z kept (R171). -/
def Obligations.AddPairToHL : Prop :=
  ∀ (p : Reg16) (s : State),
    exec (addHLInstr p) s =
      .next (withF (s.setHL (BitVec.ofNat 16 (s.hl.toNat + (s.reg16 p).toNat)))
        (flagByte s.flags.z false (decide (s.hl.toNat % 4096 + (s.reg16 p).toNat % 4096 > 4095))
          (decide (s.hl.toNat + (s.reg16 p).toNat > 65535))) 8)

/-- INC rr and DEC rr: modulo 2^16, no flag (R262, R263). -/
def Obligations.IncDecPair : Prop :=
  ∀ (p : Reg16) (s : State),
    exec (inc16Instr p) s =
      .next { s.setReg16 p (BitVec.ofNat 16 (((s.reg16 p).toNat + 1) % 65536)) with cycles := s.cycles + 8 } ∧
    exec (dec16Instr p) s =
      .next { s.setReg16 p (BitVec.ofNat 16 (((s.reg16 p).toNat + 65535) % 65536)) with cycles := s.cycles + 8 }

/-- ADD SP,e and LD HL,SP+e: the signed sum, the flags of the low byte with Z and N zero (R172). -/
def Obligations.StackPointerOffset : Prop :=
  ∀ (e : Byte) (s : State),
    exec (.add_SP_e e) s = .next (withF (s.setSP (spPlus s.regs.sp e)) (lowCarries s.regs.sp e) 16) ∧
    exec (.ld_HL_SPe e) s = .next (withF (s.setHL (spPlus s.regs.sp e)) (lowCarries s.regs.sp e) 12)

/-! ### Rotates, shifts, bits -/

/-- RLCA, RRCA, RLA, RRA: A rotated, C the bit shifted out, Z, N and H zero (R271 to R274; Z is the spec's choice C2). -/
def Obligations.AccumulatorRotates : Prop :=
  ∀ s : State,
    exec .rlca s = .next (withAF s (BitVec.ofNat 8 (rotSpec .rlc s.regs.a.toNat (carry s)).1)
      (rotFlags false (rotSpec .rlc s.regs.a.toNat (carry s)).2) 4) ∧
    exec .rrca s = .next (withAF s (BitVec.ofNat 8 (rotSpec .rrc s.regs.a.toNat (carry s)).1)
      (rotFlags false (rotSpec .rrc s.regs.a.toNat (carry s)).2) 4) ∧
    exec .rla s = .next (withAF s (BitVec.ofNat 8 (rotSpec .rl s.regs.a.toNat (carry s)).1)
      (rotFlags false (rotSpec .rl s.regs.a.toNat (carry s)).2) 4) ∧
    exec .rra s = .next (withAF s (BitVec.ofNat 8 (rotSpec .rr s.regs.a.toNat (carry s)).1)
      (rotFlags false (rotSpec .rr s.regs.a.toNat (carry s)).2) 4)

/-- The prefixed RLC, RRC, RL and RR on a register and on the byte at HL (R160 to R163): result, all four flags, cost. -/
def Obligations.PrefixedRotates : Prop :=
  ∀ (op : RotOp) (s : State), op = .rlc ∨ op = .rrc ∨ op = .rl ∨ op = .rr →
    (∀ r : Reg8,
      let x := rotSpec op (s.reg r).toNat (carry s)
      exec (rotInstr op (.reg r)) s = .next (withF (s.setReg r (BitVec.ofNat 8 x.1)) (rotFlags (x.1 == 0) x.2) 8)) ∧
    (s.answers s.hl = true →
      let x := rotSpec op (s.readByte s.hl).toNat (carry s)
      exec (rotInstr op .mHL) s =
        .next (withF (s.wrote s.hl (BitVec.ofNat 8 x.1)) (rotFlags (x.1 == 0) x.2) 16))

/-- SLA, SRA, SRL and SWAP on a register and on the byte at HL (R164 to R167: from general knowledge). -/
def Obligations.ShiftsAndSwap : Prop :=
  ∀ (op : RotOp) (s : State), op = .sla ∨ op = .sra ∨ op = .srl ∨ op = .swap →
    (∀ r : Reg8,
      let x := rotSpec op (s.reg r).toNat (carry s)
      exec (rotInstr op (.reg r)) s = .next (withF (s.setReg r (BitVec.ofNat 8 x.1)) (rotFlags (x.1 == 0) x.2) 8)) ∧
    (s.answers s.hl = true →
      let x := rotSpec op (s.readByte s.hl).toNat (carry s)
      exec (rotInstr op .mHL) s =
        .next (withF (s.wrote s.hl (BitVec.ofNat 8 x.1)) (rotFlags (x.1 == 0) x.2) 16))

/-- BIT, RES and SET on a register and on the byte at HL (R168, R169, R170). BIT: Z the complement of the bit, N zero, H
one, C kept, nothing else written. RES and SET: one bit cleared or set, no flag written. -/
def Obligations.BitInstructions : Prop :=
  (∀ (n : Oct) (s : State),
    (∀ r : Reg8,
      exec (bitInstr n (.reg r)) s =
        .next (withF s (flagByte (bit (s.reg r).toNat n.toNat == 0) false true s.flags.c) 8)) ∧
    (s.answers s.hl = true →
      exec (bitInstr n .mHL) s =
        .next (withF s (flagByte (bit (s.readByte s.hl).toNat n.toNat == 0) false true s.flags.c) 12))) ∧
  (∀ (n : Oct) (s : State),
    let cleared := fun v : Byte => BitVec.ofNat 8 (v.toNat - bit v.toNat n.toNat * 2 ^ n.toNat)
    let raised := fun v : Byte => BitVec.ofNat 8 (v.toNat + (1 - bit v.toNat n.toNat) * 2 ^ n.toNat)
    (∀ r : Reg8,
      exec (resInstr n (.reg r)) s = .next { s.setReg r (cleared (s.reg r)) with cycles := s.cycles + 8 } ∧
      exec (setInstr n (.reg r)) s = .next { s.setReg r (raised (s.reg r)) with cycles := s.cycles + 8 }) ∧
    (s.answers s.hl = true →
      exec (resInstr n .mHL) s = .next ((s.wrote s.hl (cleared (s.readByte s.hl))).charge 16) ∧
      exec (setInstr n .mHL) s = .next ((s.wrote s.hl (raised (s.readByte s.hl))).charge 16)))

/-! ### Control -/

/-- JP nn, JP (HL), JR e, and JP cc,nn and JR cc,e taken or not by the condition, with the two costs: only pc changes
(R311 to R314, R321, R310). -/
def Obligations.Jumps : Prop :=
  (∀ s : State,
    (∀ nn : Word, exec (.jp_nn nn) s = .next (withPC s nn 16)) ∧
    exec .jp_HL s = .next (withPC s s.hl 4) ∧
    (∀ e : Byte, exec (.jr_e e) s = .next (withPC s (BitVec.ofInt 16 (s.regs.pc.toNat + e.toInt)) 12))) ∧
  (∀ (cc : Cond) (s : State),
    let taken := match cc with
      | .nz => !s.regs.f.getLsbD 7
      | .z => s.regs.f.getLsbD 7
      | .nc => !s.regs.f.getLsbD 4
      | .c => s.regs.f.getLsbD 4
    (∀ nn : Word,
      exec (jpCondInstr nn cc) s = .next (if taken then withPC s nn 16 else withPC s s.regs.pc 12)) ∧
    (∀ e : Byte,
      exec (jrCondInstr e cc) s =
        .next (if taken then withPC s (BitVec.ofInt 16 (s.regs.pc.toNat + e.toInt)) 12 else withPC s s.regs.pc 8)))

/-- CALL nn, RST and CALL cc,nn: pc is pushed, then written; CALL cc not taken touches no memory and not SP (R315, R316,
R320). -/
def Obligations.Calls : Prop :=
  (∀ s : State, s.answers (s.regs.sp - 2) = true → s.answers (s.regs.sp - 1) = true →
    let pushed := (s.setSP (s.regs.sp - 2)).wroteWord (s.regs.sp - 2) s.regs.pc
    (∀ nn : Word, exec (.call_nn nn) s = .next (withPC pushed nn 24)) ∧
    (∀ y : Oct, exec (rstInstr y) s = .next (withPC pushed (BitVec.ofNat 16 (8 * y.toNat)) 16)) ∧
    (∀ (cc : Cond) (nn : Word), s.holds cc = true → exec (callCondInstr nn cc) s = .next (withPC pushed nn 24))) ∧
  (∀ (s : State) (cc : Cond) (nn : Word), s.holds cc = false →
    exec (callCondInstr nn cc) s = .next (withPC s s.regs.pc 12))

/-- RET, RETI and RET cc: pc is the word at SP; RETI also sets IME at once and leaves the pipe; RET cc not taken touches
no memory and not SP (R317, R318, R319). -/
def Obligations.Returns : Prop :=
  (∀ s : State, s.answers s.regs.sp = true → s.answers (s.regs.sp + 1) = true →
    exec .ret s = .next (withPC (s.setSP (s.regs.sp + 2)) (s.readWord s.regs.sp) 16) ∧
    exec .reti s =
      .next { withPC (s.setSP (s.regs.sp + 2)) (s.readWord s.regs.sp) 16 with int := { s.int with ime := true } } ∧
    (∀ cc : Cond, s.holds cc = true →
      exec (retCondInstr cc) s = .next (withPC (s.setSP (s.regs.sp + 2)) (s.readWord s.regs.sp) 20))) ∧
  (∀ (s : State) (cc : Cond), s.holds cc = false → exec (retCondInstr cc) s = .next (withPC s s.regs.pc 8))

/-! ### System instructions -/

/-- NOP, HALT, STOP, DI and EI: only the run state or slot 1 of the pipe changes, 4 cycles (R331 to R335). -/
def Obligations.SystemInstructions : Prop :=
  ∀ s : State,
    exec .nop s = .next { s with cycles := s.cycles + 4 } ∧
    exec .halt s = .next { s with runState := .halted, cycles := s.cycles + 4 } ∧
    (∀ pad : Byte, exec (.stop pad) s = .next { s with runState := .stopped, cycles := s.cycles + 4 }) ∧
    exec .di s = .next { s with int := { s.int with pipe1 := .clear }, cycles := s.cycles + 4 } ∧
    exec .ei s = .next { s with int := { s.int with pipe1 := .set }, cycles := s.cycles + 4 }

/-- The prefix byte on its own runs the instruction its second byte selects, as one instruction (R336): it completes
where that one does. -/
def Obligations.PrefixRunsPair : Prop :=
  ∀ s : State, s.answers s.regs.pc = true →
    exec .prefix_CB s = exec (decodeCb (s.readByte s.regs.pc)) (s.setPC (s.regs.pc + 1)) ∧
    ((s.setPC (s.regs.pc + 1)).answers s.hl = true → ∃ t, exec .prefix_CB s = .next t)

/-- An unassigned opcode faults with the address its byte was read from and the byte, in every state (R337, R351); once
`fault` is set no step gives a next state (R50). -/
def Obligations.UnassignedFaults : Prop :=
  (∀ (s : State) (op : Byte), exec (.illegal op) s = .fault (.decodeFailure (s.regs.pc - 1) op)) ∧
  (∀ (s : State) (f : Fault), s.fault = some f → step s = .fault f ∧ s.afterStep = s)

/-! ### Interrupts and power states -/

/-- `SetInterrupt(i)` and `ResetInterrupt(i)` update one bit of IF and leave the other four and everything else (R89). -/
def Obligations.RequestOneLine : Prop :=
  ∀ (s : State) (i : Nat), i < 5 →
    ∃ v w : BitVec 5, s.setInterrupt i = withIf s v ∧ s.resetInterrupt i = withIf s w ∧
      (∀ j : Nat, j < 5 → v.getLsbD j = (decide (j = i) || s.int.if_.getLsbD j)) ∧
      (∀ j : Nat, j < 5 → w.getLsbD j = (decide (j ≠ i) && s.int.if_.getLsbD j))

/-- The line taken is the lowest-numbered one that is pending and enabled, and its vector is 0x0040 + 8 * i (R370,
R372). -/
def Obligations.LowestLineFirst : Prop :=
  ∀ s : State,
    (∀ i : Nat, leastLine s.pending = some i ↔
      i < 5 ∧ s.int.ie.getLsbD i = true ∧ s.int.if_.getLsbD i = true ∧
        ∀ j : Nat, j < i → ¬ (s.int.ie.getLsbD j = true ∧ s.int.if_.getLsbD j = true)) ∧
    (leastLine s.pending = none ↔
      ∀ j : Nat, j < 5 → ¬ (s.int.ie.getLsbD j = true ∧ s.int.if_.getLsbD j = true)) ∧
    vector 0 = 0x0040 ∧ vector 1 = 0x0048 ∧ vector 2 = 0x0050 ∧ vector 3 = 0x0058 ∧ vector 4 = 0x0060

/-- Taking an interrupt (R373): running or halted with IME set and line `i` the least pending, the bit of `i` is cleared in
IF, IME is cleared, pc is pushed, pc goes to the vector, 20 cycles; registers, IE and the pipe are kept. -/
def Obligations.TakeInterrupt : Prop :=
  ∀ (s : State) (i : Nat), s.hostQueue = [] → s.runState ≠ .stopped → s.int.ime = true →
    leastLine s.pending = some i → s.answers (s.regs.sp - 2) = true → s.answers (s.regs.sp - 1) = true →
    s.prepare =
      .ok (withPC (({ s with
          regs := { s.regs with sp := s.regs.sp - 2 },
          int := { s.int with ime := false, if_ := s.int.if_ &&& ~~~((1 : BitVec 5) <<< i) },
          runState := .running,
          cycles := 0 } : State).wroteWord (s.regs.sp - 2) s.regs.pc) (vector i) 20)

/-- No interrupt is taken while IME is 0, or while nothing is pending and enabled, or while stopped: lines 1 to 3 of a step
then only wake a halted core that has an enabled line pending (R361, R372). That a halted core wakes whatever IME is, and
that a stopped one is neither woken nor dispatched, are decisions D15, D16 and D37 of the spec (log 16). -/
def Obligations.NoInterrupt : Prop :=
  ∀ s : State, s.hostQueue = [] → (s.int.ime = false ∨ s.pending = 0 ∨ s.runState = .stopped) →
    s.prepare =
      .ok { s with
        runState := if s.runState = .halted ∧ s.pending ≠ 0 then .running else s.runState, cycles := 0 }

/-- The delay of DI and EI, whatever slot 0 of the pipe holds when they run: the retirement of DI or EI applies slot 0;
whatever instruction follows, a RETI, DI or EI too, IME is 0 (after DI) or 1 (after EI) from its retirement on, and what
slot 0 gave up to then (R376, R378; decision D14 of the spec, log 16). -/
def Obligations.ImeLatency : Prop :=
  ∀ (s t u : State) (i : Instr), exec i t.imeRetire = .next u →
    let before := match s.int.pipe0 with
      | .none => s.int.ime
      | .set => true
      | .clear => false
    (exec .di s = .next t → t.imeRetire.int.ime = before ∧ u.imeRetire.int.ime = false) ∧
    (exec .ei s = .next t → t.imeRetire.int.ime = before ∧ u.imeRetire.int.ime = true)

/-- An idle step (R360): halted with nothing pending, 4 cycles pass for timer and PPU; stopped with no host event, 4
cycles are counted and nothing else changes (R332, R333). -/
def Obligations.IdleSteps : Prop :=
  ∀ s : State, s.fault = none → s.hostQueue = [] →
    (s.runState = .halted → s.pending = 0 →
      step s = .next (settled { s with cycles := 4 })) ∧
    (s.runState = .stopped → step s = .next { s with cycles := 4, clock := s.clock + 4 })

/-- A step drains the host's key events first, in the order posted (R360, R395): draining `e :: es` is the event `e` and
then draining `es`, and the queue is empty afterwards. A key-down of a key not held adds it, requests line 4 if IE bit 4 is
set and ends `Stopped`; of a held key it does nothing; a key-up takes the key out. Bits 3 to 0 of P1 are active low, the
direction row where bit 4 is 0, the button row where bit 5 is 0 (R396). Decisions D24 and D31 of the spec (log 16). -/
def Obligations.KeyEvents : Prop :=
  (∀ s : State, step s = step s.drain ∧ s.drain.hostQueue = [] ∧ (s.hostQueue = [] → s.drain = s)) ∧
  (∀ (s : State) (k : Key) (es : List HostEvent),
    (s.hostQueue = .keyDown k :: es → s.joy.keys.held k = false →
      s.drain = ({ s with
        joy := { s.joy with keys := s.joy.keys.put k true },
        int := { s.int with if_ := if s.int.ie.getLsbD 4 then s.int.if_ ||| 0b10000 else s.int.if_ },
        runState := if s.runState = .stopped then .running else s.runState,
        hostQueue := es } : State).drain) ∧
    (s.hostQueue = .keyDown k :: es → s.joy.keys.held k = true → s.drain = ({ s with hostQueue := es } : State).drain) ∧
    (s.hostQueue = .keyUp k :: es →
      s.drain = ({ s with joy := { s.joy with keys := s.joy.keys.put k false }, hostQueue := es } : State).drain) ∧
    (∀ k' : Key, ∀ v : Bool, (s.joy.keys.put k v).held k' = if k' = k then v else s.joy.keys.held k')) ∧
  (∀ (j : Joypad) (i : Nat), i < 4 →
    let directions := [Key.right, Key.left, Key.up, Key.down]
    let buttons := [Key.a, Key.b, Key.select, Key.start]
    (joyNibble j).getLsbD i =
      !((!j.p1Sel.getLsbD 0 && j.keys.held (directions.getD i .right)) ||
        (!j.p1Sel.getLsbD 1 && j.keys.held (buttons.getD i .a))))

/-! ### Timer -/

/-- `TimerAdvance(n)` is `n` single cycles, and one cycle is one of three cases (R386): no edge; an edge below 0xFF; an
edge at 0xFF, which reloads from TMA in the same cycle and requests line 2. The selected bits are 9, 3, 5, 7 (R385). That
the counter moves with TAC bit 2 clear is C1 and D11 of the spec, edges at increments only D12, rising edges C8, the
reload in the same cycle C5 (log 16). -/
def Obligations.TimerCycle : Prop :=
  ∀ s : State,
    let old := s.timer.div.toNat
    let b := match (s.timer.tac.toNat % 4) with
      | 0 => 9
      | 1 => 3
      | 2 => 5
      | _ => 7
    let edge := s.timer.tac.toNat ≥ 4 ∧ bit old b = 0 ∧ bit ((old + 1) % 65536) b = 1
    s.timerAdvance 0 = s ∧ (∀ n : Nat, s.timerAdvance (n + 1) = (s.timerAdvance 1).timerAdvance n) ∧
    (¬ edge → s.timerAdvance 1 = { s with timer := { s.timer with div := s.timer.div + 1 } }) ∧
    (edge → s.timer.tima ≠ 0xFF →
      s.timerAdvance 1 =
        { s with timer := { s.timer with div := s.timer.div + 1, tima := s.timer.tima + 1 } }) ∧
    (edge → s.timer.tima = 0xFF →
      s.timerAdvance 1 =
        { s with
          timer := { s.timer with div := s.timer.div + 1, tima := s.timer.tma },
          int := { s.int with if_ := s.int.if_ ||| 0b00100 } })

/-- Many cycles: the counter moves by their number; with TAC bit 2 clear TIMA stands still; with it set TIMA counts the
rising edges of the selected bit while they stay below the overflow; TMA and TAC are kept (R384 to R386). The counter
that runs with TAC bit 2 clear is C1 and D11 of the spec, the rising edge at increments C8 and D12 (log 16). -/
def Obligations.TimerCounts : Prop :=
  ∀ (s : State) (n : Nat),
    (s.timerAdvance n).timer.div = s.timer.div + BitVec.ofNat 16 n ∧
    (s.timerAdvance n).timer.tma = s.timer.tma ∧ (s.timerAdvance n).timer.tac = s.timer.tac ∧
    (s.timer.tac.getLsbD 2 = false →
      s.timerAdvance n = { s with timer := { s.timer with div := s.timer.div + BitVec.ofNat 16 n } }) ∧
    (s.timer.tac.getLsbD 2 = true →
      s.timer.tima.toNat + risingEdges (selBit s.timer.tac) s.timer.div.toNat n < 256 →
      (s.timerAdvance n).timer.tima.toNat =
          s.timer.tima.toNat + risingEdges (selBit s.timer.tac) s.timer.div.toNat n ∧
        (s.timerAdvance n).int = s.int)

/-! ### PPU -/

/-- The four transitions at the moment the cycles of a state are over (R404): the next state, the published line, the
requests and the outputs, and nothing else. -/
def Obligations.PpuTransitions : Prop :=
  ∀ (s : State) (n : Nat), s.ppu.lcdc.getLsbD 7 = true → s.ppu.line < 154 → 0 < n →
    let j := fun (k : Nat) (v : BitVec 5) => if s.ppu.statSel.getLsbD k then v ||| 0b00010 else v
    let next := BitVec.ofNat 8 (s.ppu.line + 1)
    (s.ppu.mode = .oamSearch → s.ppu.dot + n = 80 →
      s.ppuAdvance n = { s with
        ppu := { s.ppu with mode := .pixelTransfer, dot := 0 },
        outputs := s.outputs ++ [.drawLine s.ppu.line (renderLine s s.ppu.line)] }) ∧
    (s.ppu.mode = .pixelTransfer → s.ppu.dot + n = 172 →
      s.ppuAdvance n = { s with
        ppu := { s.ppu with mode := .hBlank, dot := 0 }, int := { s.int with if_ := j 0 s.int.if_ } }) ∧
    (s.ppu.mode = .hBlank → s.ppu.dot + n = 204 → s.ppu.line ≠ 143 →
      s.ppuAdvance n = { s with
        ppu := { s.ppu with mode := .oamSearch, dot := 0, line := s.ppu.line + 1, ly := next },
        int := { s.int with if_ := j 2 s.int.if_ } }) ∧
    (s.ppu.mode = .hBlank → s.ppu.dot + n = 204 → s.ppu.line = 143 →
      s.ppuAdvance n = { s with
        ppu := { s.ppu with mode := .vBlank, dot := 0, line := 144, ly := 144 },
        int := { s.int with if_ := j 1 (s.int.if_ ||| 0b00001) },
        outputs := s.outputs ++ [.frameComplete] }) ∧
    (s.ppu.mode = .vBlank → s.ppu.dot + n = 456 → s.ppu.line ≠ 153 →
      s.ppuAdvance n = { s with ppu := { s.ppu with dot := 0, line := s.ppu.line + 1, ly := next } }) ∧
    (s.ppu.mode = .vBlank → s.ppu.dot + n = 456 → s.ppu.line = 153 →
      s.ppuAdvance n = { s with
        ppu := { s.ppu with mode := .oamSearch, dot := 0, line := 0, ly := 0 },
        int := { s.int with if_ := j 2 s.int.if_ } })

/-- However the cycles are cut into steps, the PPU goes the same way (R402): cycles beyond a budget carry into the next
state, decision D21 of the spec (log 16). -/
def Obligations.PpuAdvanceAdds : Prop :=
  ∀ (s : State) (m n : Nat), s.ppu.Legal → s.ppuAdvance (m + n) = (s.ppuAdvance m).ppuAdvance n

/-- A frame (R409): from the start of OAM search on line 0 with the LCD on, 70224 cycles bring the PPU back there, and
emit the 144 lines in order and one `frame_complete`. That it is exactly 70224 is C6 and D21 of the spec (log 16). -/
def Obligations.FrameTiming : Prop :=
  ∀ s : State, s.ppu.lcdc.getLsbD 7 = true → s.ppu.mode = .oamSearch → s.ppu.dot = 0 → s.ppu.line = 0 →
    let t := s.ppuAdvance 70224
    t.ppu = { s.ppu with ly := 0 } ∧ t.int.if_.getLsbD 0 = true ∧
    ∃ os : List Output, t.outputs = s.outputs ++ os ∧ os.filterMap lineOf = List.range 144 ∧
      os.count .frameComplete = 1 ∧ os.length = 145

/-- Switching the LCD (R92, R405, R406): 0 to 1 starts OAM search on line 0; 1 to 0 stops there too and emits `blank`; no
change of bit 7 changes only LCDC. While it is off no cycles move the PPU, request an interrupt or emit a row. -/
def Obligations.LcdSwitch : Prop :=
  (∀ (s : State) (v : Byte),
    let home := { s.ppu with lcdc := v, mode := .oamSearch, dot := 0, line := 0, ly := 0 }
    (s.ppu.lcdc.getLsbD 7 = false → v.getLsbD 7 = true → s.memWrite 0xFF40 v = .ok { s with ppu := home }) ∧
    (s.ppu.lcdc.getLsbD 7 = true → v.getLsbD 7 = false →
      s.memWrite 0xFF40 v = .ok { s with ppu := home, outputs := s.outputs ++ [.blank] }) ∧
    (s.ppu.lcdc.getLsbD 7 = v.getLsbD 7 → s.memWrite 0xFF40 v = .ok { s with ppu := { s.ppu with lcdc := v } })) ∧
  (∀ (s : State) (n : Nat), s.ppu.lcdc.getLsbD 7 = false →
    s.ppuAdvance n = s ∧ (s.ppu.Legal → s.memRead 0xFF41 = .ok (0x82 ||| (s.ppu.statSel.setWidth 8 <<< 3)) ∧
      s.memRead 0xFF44 = .ok 0x00))

/-- A row has 160 pixels, and where no sprite can show, with sprites off, each is the shade BGP gives the colour index of
the window where it covers and of the scrolled background elsewhere, 0 with both off (R414 to R416; D26 of the spec,
log 14). -/
def Obligations.RenderedRow : Prop :=
  ∀ (s : State) (y : Nat),
    (renderLine s y).length = 160 ∧
    (s.ppu.lcdc.getLsbD 1 = false →
      ∀ x : Nat, x < 160 → (renderLine s y)[x]? = some (paletteShade s.ppu.bgp (below s x y)))

/-- A pixel with sprites on (R414, R417; D26 of the spec, log 14). Of the first ten records in OAM order that reach the
line, the opaque one with the smallest X, and of those the smallest number, shows through its own palette, unless it lies
below a background whose colour index is not 0; with no opaque one the background or window shows. -/
def Obligations.SpritePixel : Prop :=
  ∀ (s : State) (x y : Nat), x < 160 → s.ppu.lcdc.getLsbD 1 = true →
    (∀ k : Nat, chosen s y k → spriteIndex s x y k ≠ 0 →
      (∀ j : Nat, chosen s y j → spriteIndex s x y j ≠ 0 →
        (oamByte s k 1).toNat < (oamByte s j 1).toNat ∨ (oamByte s k 1 = oamByte s j 1 ∧ k ≤ j)) →
      (renderLine s y)[x]? =
        some (if (oamByte s k 3).getLsbD 7 = false ∨ below s x y = 0 then
            paletteShade (if (oamByte s k 3).getLsbD 4 then s.ppu.obp1 else s.ppu.obp0) (spriteIndex s x y k)
          else paletteShade s.ppu.bgp (below s x y))) ∧
    ((∀ k : Nat, chosen s y k → spriteIndex s x y k = 0) →
      (renderLine s y)[x]? = some (paletteShade s.ppu.bgp (below s x y)))

/-! ### The bus -/

/-- The regions with no gate and no switch, read and written: cartridge ROM (outside the active overlay; writes dropped
even under it, R77), work RAM, its echo, high RAM and IE (R76, R80, R81, R86, R87). That IE stores all eight bits is
decision D23 of the spec (R37, log 16). -/
def Obligations.PlainRegions : Prop :=
  ∀ (s : State) (a : Word) (v : Byte),
    let stored := fun k : Nat => ({ s with mem := s.mem.set k v } : State)
    (a.toNat < 0x8000 → (s.bootOverlay = false ∨ 0x0100 ≤ a.toNat) → s.memRead a = .ok (s.mem.get a.toNat)) ∧
    (a.toNat < 0x8000 → s.memWrite a v = .ok s) ∧
    (0xC000 ≤ a.toNat → a.toNat < 0xE000 →
      s.memRead a = .ok (s.mem.get a.toNat) ∧ s.memWrite a v = .ok (stored a.toNat)) ∧
    (0xE000 ≤ a.toNat → a.toNat < 0xFE00 →
      s.memRead a = .ok (s.mem.get (a.toNat - 0x2000)) ∧ s.memWrite a v = .ok (stored (a.toNat - 0x2000))) ∧
    (0xFF80 ≤ a.toNat → a.toNat < 0xFFFF →
      s.memRead a = .ok (s.mem.get a.toNat) ∧ s.memWrite a v = .ok (stored a.toNat)) ∧
    (a.toNat = 0xFFFF →
      s.memRead a = .ok s.int.ie ∧ s.memWrite a v = .ok { s with int := { s.int with ie := v } })

/-- The regions that a state bit or a parameter switches: the boot overlay, video RAM and OAM (reads give 0xFF during
pixel transfer, writes are never gated), external RAM with EXT_RAM, and the unusable range (R77, R78, R79, R82, R83;
decisions D7, D8, D9 of the spec). -/
def Obligations.GatedRegions : Prop :=
  ∀ (s : State) (a : Word) (v : Byte),
    let stored := fun k : Nat => ({ s with mem := s.mem.set k v } : State)
    (a.toNat < 0x0100 → s.bootOverlay = true → ∀ m, s.params.boot = some m → s.memRead a = .ok (m.get a.toNat)) ∧
    ((0x8000 ≤ a.toNat ∧ a.toNat < 0xA000) ∨ (0xFE00 ≤ a.toNat ∧ a.toNat < 0xFEA0) →
      s.memRead a = .ok (if s.ppu.mode = .pixelTransfer then 0xFF else s.mem.get a.toNat) ∧
      s.memWrite a v = .ok (stored a.toNat)) ∧
    (0xA000 ≤ a.toNat → a.toNat < 0xC000 → s.params.extRam = true →
      s.memRead a = .ok (s.mem.get a.toNat) ∧ s.memWrite a v = .ok (stored a.toNat)) ∧
    (0xFEA0 ≤ a.toNat → a.toNat < 0xFF00 → s.memRead a = .ok 0x00 ∧ s.memWrite a v = .ok s)

/-- Work RAM and high RAM are plain storage: a byte written is read back, at its echo too, and no other byte read
changes (R80, R81, R86, R95). -/
def Obligations.RamReadsBack : Prop :=
  ∀ (s : State) (a : Word) (v : Byte), s.mem.wf →
    (0xC000 ≤ a.toNat ∧ a.toNat < 0xFE00) ∨ (0xFF80 ≤ a.toNat ∧ a.toNat < 0xFFFF) →
    ∃ t : State, s.memWrite a v = .ok t ∧ t.memRead a = .ok v ∧
      (a.toNat < 0xDE00 → t.memRead (a + 0x2000) = .ok v) ∧
      (0xE000 ≤ a.toNat → a.toNat < 0xFE00 → t.memRead (a - 0x2000) = .ok v) ∧
      (∀ b : Word, cellOf b ≠ cellOf a → t.memRead b = s.memRead b)

/-- The unmapped addresses are those of R93 and, without EXT_RAM, external RAM: with BUS_STRICT an access faults with the
address and its direction, without it a read gives 0x00 and a write changes nothing (R94). -/
def Obligations.UnmappedAccess : Prop :=
  ∀ (s : State) (a : Word) (v : Byte),
    (mapped s.params.extRam a = false → s.params.busStrict = true →
      s.memRead a = .error (.busUnmapped a .read) ∧ s.memWrite a v = .error (.busUnmapped a .write)) ∧
    (mapped s.params.extRam a = false → s.params.busStrict = false →
      s.memRead a = .ok 0x00 ∧ s.memWrite a v = .ok s) ∧
    (mapped s.params.extRam a = true → ∃ b t, s.memRead a = .ok b ∧ s.memWrite a v = .ok t)

/-- Every I/O register: the address it stands at and no other, the state that holds it, and what it reads as after a CPU
write (R84, R85, R90, R91, R99). The bits that no unit stores read as decision D23 of the spec says (log 16). -/
def Obligations.IoRegisters : Prop :=
  (∀ (a : Word) (r : IoReg), ioReg? a = some r ↔ a = ioAddress r) ∧
  (∀ a : Word, 0xFF00 ≤ a.toNat → a.toNat < 0xFF80 →
    ((ioReg? a).isSome = true ↔ a.toNat = 0xFF00 ∨ (0xFF04 ≤ a.toNat ∧ a.toNat ≤ 0xFF07) ∨ a.toNat = 0xFF0F ∨
      (0xFF40 ≤ a.toNat ∧ a.toNat ≤ 0xFF4B))) ∧
  (∀ (s : State) (r : IoReg), s.memRead (ioAddress r) = .ok (ioHolds s r)) ∧
  (∀ (s : State) (r : IoReg) (v : Byte),
    ∃ t : State, s.memWrite (ioAddress r) v = .ok t ∧ t.memRead (ioAddress r) = .ok (ioAfterWrite s r v) ∧
      (r = .div → t.timer.div = 0) ∧ t.regs = s.regs ∧ t.mem = s.mem ∧
      (∀ b : Word, b ≠ ioAddress r → r ≠ .lcdc → t.memRead b = s.memRead b))

/-! ### Whole-machine rules -/

/-- Every byte an instruction does not store to reads as before: for every instruction, every address that shares no
storage with an address it stores to, where it does not store to LCDC (R97, R98; LCDC moves the PPU, R92). -/
def Obligations.StoredBytesOnly : Prop :=
  ∀ (i : Instr) (s t : State) (b : Word), exec i s = .next t →
    (∀ a ∈ storeSpan i s, cellOf a ≠ cellOf b ∧ a ≠ 0xFF40) → t.memRead b = s.memRead b

/-- A flag an instruction does not list is left unchanged by it (R30). -/
def Obligations.FlagFrame : Prop :=
  ∀ (i : Instr) (s t : State), exec i s = .next t →
    ((writesFlags i).z = false → t.flags.z = s.flags.z) ∧ ((writesFlags i).n = false → t.flags.n = s.flags.n) ∧
    ((writesFlags i).h = false → t.flags.h = s.flags.h) ∧ ((writesFlags i).c = false → t.flags.c = s.flags.c)

/-- Without BUS_STRICT every assigned instruction completes in every state; with it, an instruction stops only by the
fault of an unmapped access (R350, R352). -/
def Obligations.EveryInstructionCompletes : Prop :=
  ∀ (i : Instr) (s : State), (∀ op, i ≠ .illegal op) →
    (s.params.busStrict = false → ∃ t, exec i s = .next t) ∧
    ((∃ t, exec i s = .next t) ∨ ∃ a k, exec i s = .fault (.busUnmapped a k))

/-- What no instruction touches: the timer but by a store to it, the host queue, the keys, the clock, the fault field, the
overlay, the parameters, slot 0 of the pipe and the ROM (R76, R100, R376). -/
def Obligations.InstructionFrame : Prop :=
  ∀ (i : Instr) (s t : State), exec i s = .next t →
    t.hostQueue = s.hostQueue ∧ t.joy.keys = s.joy.keys ∧ t.clock = s.clock ∧ t.fault = s.fault ∧
    t.bootOverlay = s.bootOverlay ∧ t.params = s.params ∧ t.int.pipe0 = s.int.pipe0 ∧
    (∀ a : Nat, a < 0x8000 → t.mem.get a = s.mem.get a) ∧
    (storeSpan i s = [] → t.timer = s.timer ∧ t.joy = s.joy ∧ t.ppu = s.ppu ∧ t.mem = s.mem ∧
      t.int.ie = s.int.ie ∧ t.int.if_ = s.int.if_ ∧ t.outputs = s.outputs)

/-- A step that completes costs a multiple of 4 between 4 and 44 cycles, adds them to the clock, and leaves the host
queue empty and no fault (R360, R450, R451). No step changes the ROM or a parameter, or puts the boot overlay back; outputs
are only added (R7, R49, R76, R411). -/
def Obligations.StepAccounts : Prop :=
  ∀ s t : State, step s = .next t →
    t.cycles % 4 = 0 ∧ 4 ≤ t.cycles ∧ t.cycles ≤ 44 ∧ t.clock = s.clock + t.cycles ∧ t.hostQueue = [] ∧
      t.fault = none ∧
    (∀ a : Nat, a < 0x8000 → t.mem.get a = s.mem.get a) ∧ t.params = s.params ∧
    (s.bootOverlay = false → t.bootOverlay = false) ∧ ∃ os, t.outputs = s.outputs ++ os

/-! ### Reset and the invariant -/

/-- The four start configurations and every reset value of R60, R61 and R433; the registers are those of the launch, F
masked. Most values are the spec's decisions D1 and D2 (log 2); what a launch leaves out is zero (log 1, log 3); the cycle
count and the outputs start empty (log 11). -/
def Obligations.StartConfigurations : Prop :=
  ∀ p : Launch,
    let cold : State := {
      regs := ⟨p.a, p.f &&& 0xF0, p.b, p.c, p.d, p.e, p.h, p.l, p.sp, 0x0000⟩,
      int := { ime := false, pipe0 := .none, pipe1 := .none, if_ := 0b00000, ie := 0x00 },
      timer := { div := 0x0000, tima := 0x00, tma := 0x00, tac := 0b000 },
      joy := { p1Sel := 0b00, keys := ⟨false, false, false, false, false, false, false, false⟩ },
      ppu := {
        lcdc := 0x00, statSel := 0b0000, scy := 0x00, scx := 0x00, ly := 0x00, lyc := 0x00, dma := 0x00, bgp := 0x00,
        obp0 := 0x00, obp1 := 0x00, wy := 0x00, wx := 0x00, mode := .oamSearch, dot := 0, line := 0 },
      runState := .running, bootOverlay := p.boot.isSome, fault := none, hostQueue := [], clock := 0, cycles := 0,
      outputs := [], mem := p.mem, params := { boot := p.boot, busStrict := p.busStrict, extRam := p.extRam } }
    (p.skipBoot = false → State.resetWith p = cold) ∧
    (p.skipBoot = true →
      State.resetWith p = { cold with
        regs := ⟨0x01, 0xB0, 0x00, 0x13, 0x00, 0xD8, 0x01, 0x4D, 0xFFFE, 0x0100⟩,
        int := { cold.int with if_ := 0b00001 },
        timer := { cold.timer with div := 0xABCC },
        ppu := { cold.ppu with lcdc := 0x91, dma := 0xFF, bgp := 0xFC, obp0 := 0xFF, obp1 := 0xFF },
        bootOverlay := false })

/-- The invariant holds right after every reset whose launch lists storage in canonical form. `State.reset` is the
model's choice of a launch (log 1, log 3, log 6). -/
def Obligations.InvAtReset : Prop :=
  State.reset.Inv ∧
    ∀ p : Launch, p.mem.wf → (∀ c ∈ p.mem, isCell c.1 = true) → (State.resetWith p).Inv

/-- Every step keeps the invariant. -/
def Obligations.StepKeepsInv : Prop :=
  ∀ s t : State, s.Inv → step s = .next t → t.Inv
end

