-- ==== Sys2Proof/Laws/Bits.lean ====
section
/-! SUPPORT. Byte order, and the flags in their byte. -/

namespace Sys2Proof.Machine

theorem pair_toNat (h l : Byte) : (pair h l).toNat = h.toNat * 256 + l.toNat := by
  have e : (pair h l).toNat = h.toNat <<< 8 ||| l.toNat := BitVec.toNat_append h l
  rw [e, Nat.shiftLeft_eq, ← Nat.shiftLeft_eq, ← Nat.shiftLeft_add_eq_or_of_lt l.isLt, Nat.shiftLeft_eq]

theorem lo_toNat (v : Word) : (lo v).toNat = v.toNat % 256 := by simp [lo]

theorem hi_toNat (v : Word) : (hi v).toNat = v.toNat / 256 := by
  have := v.isLt
  simp only [hi, BitVec.extractLsb'_toNat, Nat.shiftRight_eq_div_pow]
  omega

@[simp] theorem hi_pair (h l : Byte) : hi (pair h l) = h := by
  apply BitVec.eq_of_toNat_eq
  have := l.isLt
  rw [hi_toNat, pair_toNat]; omega

@[simp] theorem lo_pair (h l : Byte) : lo (pair h l) = l := by
  apply BitVec.eq_of_toNat_eq
  have := l.isLt
  rw [lo_toNat, pair_toNat]; omega

@[simp] theorem pair_hi_lo (v : Word) : pair (hi v) (lo v) = v := by
  apply BitVec.eq_of_toNat_eq
  rw [pair_toNat, hi_toNat, lo_toNat]; omega

/-- The four flags survive being packed (R21). -/
@[simp] theorem unpackFlags_packFlags (x : Flags) : unpackFlags (packFlags x) = x := by
  obtain ⟨z, n, h, c⟩ := x
  revert z n h c; decide

/-- A packed byte has a zero low nibble (R21). -/
@[simp] theorem packFlags_low (x : Flags) : packFlags x &&& 0x0F = 0 := by
  obtain ⟨z, n, h, c⟩ := x
  revert z n h c; decide

/-- Packing what was unpacked masks the low nibble (R21). -/
theorem packFlags_unpackFlags (f : Byte) : packFlags (unpackFlags f) = f &&& 0xF0 := by
  revert f; decide +kernel

/-- A masked byte has a zero low nibble (R21). -/
@[simp] theorem mask_low (v : Byte) : (v &&& 0xF0) &&& 0x0F = 0 := by
  revert v; decide +kernel

@[simp] theorem State.flags_setFlags (s : State) (x : Flags) : (s.setFlags x).flags = x := unpackFlags_packFlags x

end Sys2Proof.Machine
end

