-- ==== Sys2Proof/Laws/Memory.lean ====
section
/-! SUPPORT. The laws of the storage list: read after write, and that a write keeps the canonical form. -/

namespace Sys2Proof

namespace Memory

/-- Every entry lies above a bound. -/
def Above (a : Nat) (m : Memory) : Prop := ∀ c ∈ m, a < c.1

theorem wf_nil : Memory.wf ([] : Memory) := by simp [wf]

theorem wf_cons_iff (k : Nat) (v : Byte) (m : Memory) :
    Memory.wf ((k, v) :: m) ↔ Above k m ∧ v ≠ blank ∧ Memory.wf m := by
  simp only [wf, Above, List.pairwise_cons, List.mem_cons, forall_eq_or_imp]
  tauto

theorem get_above {a : Nat} {m : Memory} (h : ∀ c ∈ m, c.1 ≠ a) : get m a = blank := by
  induction m with
  | nil => rfl
  | cons x m ih =>
    obtain ⟨k, v⟩ := x
    have hk : k ≠ a := h (k, v) (by simp)
    simp only [get, hk, if_false]
    exact ih fun c hc => h c (by simp [hc])

theorem get_cons_same {a : Nat} {v : Byte} {m : Memory} (h : ∀ c ∈ m, c.1 ≠ a) : get (cons a v m) a = v := by
  unfold cons
  split
  · rename_i hv; rw [get_above h, hv]
  · simp [get]

theorem get_cons_other {a b : Nat} {v : Byte} {m : Memory} (h : b ≠ a) : get (cons a v m) b = get m b := by
  unfold cons
  split
  · rfl
  · simp [get, Ne.symm h]

/-- Read after write at the same address. -/
theorem get_set_same {m : Memory} (h : m.wf) (a : Nat) (v : Byte) : get (set m a v) a = v := by
  induction m with
  | nil => exact get_cons_same (by simp)
  | cons x m ih =>
    obtain ⟨k, w⟩ := x
    obtain ⟨hk, -, hm⟩ := (wf_cons_iff k w m).1 h
    simp only [set]
    split
    · rename_i hak
      refine get_cons_same fun c hc => ?_
      simp only [List.mem_cons] at hc
      rcases hc with rfl | hc
      · omega
      · have := hk c hc; omega
    · split
      · rename_i _ hak
        exact get_cons_same fun c hc => by have := hk c hc; omega
      · rename_i h1 h2
        have : k ≠ a := fun e => h2 e.symm
        simp only [get, this, if_false]
        exact ih hm

/-- A write leaves every other address alone. -/
theorem get_set_other (m : Memory) {a b : Nat} (v : Byte) (h : b ≠ a) : get (set m a v) b = get m b := by
  induction m with
  | nil => exact get_cons_other h
  | cons x m ih =>
    obtain ⟨k, w⟩ := x
    simp only [set]
    split
    · exact get_cons_other h
    · split
      · rename_i _ hak
        subst hak
        rw [get_cons_other h]
        simp [get, Ne.symm h]
      · simp only [get, ih]

theorem get_set {m : Memory} (h : m.wf) (a b : Nat) (v : Byte) :
    get (set m a v) b = if b = a then v else get m b := by
  split
  · rename_i e; rw [e]; exact get_set_same h a v
  · rename_i e; exact get_set_other m v e

theorem wf_cons {a : Nat} {v : Byte} {m : Memory} (ha : Above a m) (h : m.wf) : (cons a v m).wf := by
  unfold cons
  split
  · exact h
  · rename_i hv; exact (wf_cons_iff a v m).2 ⟨ha, hv, h⟩

theorem mem_cons {a : Nat} {v : Byte} {m : Memory} {c : Host.Cell} (h : c ∈ cons a v m) : c.1 = a ∨ c ∈ m := by
  unfold cons at h
  split at h
  · exact .inr h
  · rcases List.mem_cons.1 h with rfl | h
    · exact .inl rfl
    · exact .inr h

/-- A write adds no address but its own. -/
theorem mem_set {m : Memory} {a : Nat} {v : Byte} {c : Host.Cell} (h : c ∈ set m a v) : c.1 = a ∨ c ∈ m := by
  induction m with
  | nil => simpa using mem_cons h
  | cons x m ih =>
    obtain ⟨k, w⟩ := x
    simp only [set] at h
    split at h
    · exact mem_cons h
    · split at h
      · rcases mem_cons h with h | h
        · exact .inl h
        · exact .inr (by simp [h])
      · rcases List.mem_cons.1 h with rfl | h
        · exact .inr (by simp)
        · rcases ih h with h | h
          · exact .inl h
          · exact .inr (by simp [h])

/-- A write keeps the canonical form. -/
theorem wf_set {m : Memory} (h : m.wf) (a : Nat) (v : Byte) : (set m a v).wf := by
  induction m with
  | nil => exact wf_cons (by simp [Above]) wf_nil
  | cons x m ih =>
    obtain ⟨k, w⟩ := x
    obtain ⟨hk, hw, hm⟩ := (wf_cons_iff k w m).1 h
    simp only [set]
    split
    · rename_i hak
      refine wf_cons (fun c hc => ?_) h
      rcases List.mem_cons.1 hc with rfl | hc
      · exact hak
      · have := hk c hc; omega
    · split
      · rename_i _ hak
        exact wf_cons (fun c hc => by have := hk c hc; omega) hm
      · rename_i h1 h2
        refine (wf_cons_iff k w _).2 ⟨fun c hc => ?_, hw, ih hm⟩
        rcases mem_set hc with h | h
        · omega
        · exact hk c h

end Memory

end Sys2Proof
end

