-- ==== Sys2Proof/Laws/State.lean ====
section
/-! SUPPORT. What each update of State leaves and what it writes: one lemma per field per update. -/

namespace Sys2Proof.Machine

variable (s : State)

/-! ### setReg -/

@[simp] theorem State.setReg_int (r : Reg8) (v : Byte) : (s.setReg r v).int = s.int := by cases r <;> rfl
@[simp] theorem State.setReg_timer (r : Reg8) (v : Byte) : (s.setReg r v).timer = s.timer := by cases r <;> rfl
@[simp] theorem State.setReg_joy (r : Reg8) (v : Byte) : (s.setReg r v).joy = s.joy := by cases r <;> rfl
@[simp] theorem State.setReg_ppu (r : Reg8) (v : Byte) : (s.setReg r v).ppu = s.ppu := by cases r <;> rfl
@[simp] theorem State.setReg_runState (r : Reg8) (v : Byte) : (s.setReg r v).runState = s.runState := by cases r <;> rfl
@[simp] theorem State.setReg_bootOverlay (r : Reg8) (v : Byte) : (s.setReg r v).bootOverlay = s.bootOverlay := by cases r <;> rfl
@[simp] theorem State.setReg_fault (r : Reg8) (v : Byte) : (s.setReg r v).fault = s.fault := by cases r <;> rfl
@[simp] theorem State.setReg_hostQueue (r : Reg8) (v : Byte) : (s.setReg r v).hostQueue = s.hostQueue := by cases r <;> rfl
@[simp] theorem State.setReg_clock (r : Reg8) (v : Byte) : (s.setReg r v).clock = s.clock := by cases r <;> rfl
@[simp] theorem State.setReg_cycles (r : Reg8) (v : Byte) : (s.setReg r v).cycles = s.cycles := by cases r <;> rfl
@[simp] theorem State.setReg_outputs (r : Reg8) (v : Byte) : (s.setReg r v).outputs = s.outputs := by cases r <;> rfl
@[simp] theorem State.setReg_mem (r : Reg8) (v : Byte) : (s.setReg r v).mem = s.mem := by cases r <;> rfl
@[simp] theorem State.setReg_params (r : Reg8) (v : Byte) : (s.setReg r v).params = s.params := by cases r <;> rfl

/-! ### setF -/

@[simp] theorem State.setF_int (v : Byte) : (s.setF v).int = s.int := by rfl
@[simp] theorem State.setF_timer (v : Byte) : (s.setF v).timer = s.timer := by rfl
@[simp] theorem State.setF_joy (v : Byte) : (s.setF v).joy = s.joy := by rfl
@[simp] theorem State.setF_ppu (v : Byte) : (s.setF v).ppu = s.ppu := by rfl
@[simp] theorem State.setF_runState (v : Byte) : (s.setF v).runState = s.runState := by rfl
@[simp] theorem State.setF_bootOverlay (v : Byte) : (s.setF v).bootOverlay = s.bootOverlay := by rfl
@[simp] theorem State.setF_fault (v : Byte) : (s.setF v).fault = s.fault := by rfl
@[simp] theorem State.setF_hostQueue (v : Byte) : (s.setF v).hostQueue = s.hostQueue := by rfl
@[simp] theorem State.setF_clock (v : Byte) : (s.setF v).clock = s.clock := by rfl
@[simp] theorem State.setF_cycles (v : Byte) : (s.setF v).cycles = s.cycles := by rfl
@[simp] theorem State.setF_outputs (v : Byte) : (s.setF v).outputs = s.outputs := by rfl
@[simp] theorem State.setF_mem (v : Byte) : (s.setF v).mem = s.mem := by rfl
@[simp] theorem State.setF_params (v : Byte) : (s.setF v).params = s.params := by rfl

/-! ### setFlags -/

@[simp] theorem State.setFlags_int (x : Flags) : (s.setFlags x).int = s.int := by rfl
@[simp] theorem State.setFlags_timer (x : Flags) : (s.setFlags x).timer = s.timer := by rfl
@[simp] theorem State.setFlags_joy (x : Flags) : (s.setFlags x).joy = s.joy := by rfl
@[simp] theorem State.setFlags_ppu (x : Flags) : (s.setFlags x).ppu = s.ppu := by rfl
@[simp] theorem State.setFlags_runState (x : Flags) : (s.setFlags x).runState = s.runState := by rfl
@[simp] theorem State.setFlags_bootOverlay (x : Flags) : (s.setFlags x).bootOverlay = s.bootOverlay := by rfl
@[simp] theorem State.setFlags_fault (x : Flags) : (s.setFlags x).fault = s.fault := by rfl
@[simp] theorem State.setFlags_hostQueue (x : Flags) : (s.setFlags x).hostQueue = s.hostQueue := by rfl
@[simp] theorem State.setFlags_clock (x : Flags) : (s.setFlags x).clock = s.clock := by rfl
@[simp] theorem State.setFlags_cycles (x : Flags) : (s.setFlags x).cycles = s.cycles := by rfl
@[simp] theorem State.setFlags_outputs (x : Flags) : (s.setFlags x).outputs = s.outputs := by rfl
@[simp] theorem State.setFlags_mem (x : Flags) : (s.setFlags x).mem = s.mem := by rfl
@[simp] theorem State.setFlags_params (x : Flags) : (s.setFlags x).params = s.params := by rfl

/-! ### setHL -/

@[simp] theorem State.setHL_int (v : Word) : (s.setHL v).int = s.int := by rfl
@[simp] theorem State.setHL_timer (v : Word) : (s.setHL v).timer = s.timer := by rfl
@[simp] theorem State.setHL_joy (v : Word) : (s.setHL v).joy = s.joy := by rfl
@[simp] theorem State.setHL_ppu (v : Word) : (s.setHL v).ppu = s.ppu := by rfl
@[simp] theorem State.setHL_runState (v : Word) : (s.setHL v).runState = s.runState := by rfl
@[simp] theorem State.setHL_bootOverlay (v : Word) : (s.setHL v).bootOverlay = s.bootOverlay := by rfl
@[simp] theorem State.setHL_fault (v : Word) : (s.setHL v).fault = s.fault := by rfl
@[simp] theorem State.setHL_hostQueue (v : Word) : (s.setHL v).hostQueue = s.hostQueue := by rfl
@[simp] theorem State.setHL_clock (v : Word) : (s.setHL v).clock = s.clock := by rfl
@[simp] theorem State.setHL_cycles (v : Word) : (s.setHL v).cycles = s.cycles := by rfl
@[simp] theorem State.setHL_outputs (v : Word) : (s.setHL v).outputs = s.outputs := by rfl
@[simp] theorem State.setHL_mem (v : Word) : (s.setHL v).mem = s.mem := by rfl
@[simp] theorem State.setHL_params (v : Word) : (s.setHL v).params = s.params := by rfl

/-! ### setReg16 -/

@[simp] theorem State.setReg16_int (p : Reg16) (v : Word) : (s.setReg16 p v).int = s.int := by cases p <;> rfl
@[simp] theorem State.setReg16_timer (p : Reg16) (v : Word) : (s.setReg16 p v).timer = s.timer := by cases p <;> rfl
@[simp] theorem State.setReg16_joy (p : Reg16) (v : Word) : (s.setReg16 p v).joy = s.joy := by cases p <;> rfl
@[simp] theorem State.setReg16_ppu (p : Reg16) (v : Word) : (s.setReg16 p v).ppu = s.ppu := by cases p <;> rfl
@[simp] theorem State.setReg16_runState (p : Reg16) (v : Word) : (s.setReg16 p v).runState = s.runState := by cases p <;> rfl
@[simp] theorem State.setReg16_bootOverlay (p : Reg16) (v : Word) : (s.setReg16 p v).bootOverlay = s.bootOverlay := by cases p <;> rfl
@[simp] theorem State.setReg16_fault (p : Reg16) (v : Word) : (s.setReg16 p v).fault = s.fault := by cases p <;> rfl
@[simp] theorem State.setReg16_hostQueue (p : Reg16) (v : Word) : (s.setReg16 p v).hostQueue = s.hostQueue := by cases p <;> rfl
@[simp] theorem State.setReg16_clock (p : Reg16) (v : Word) : (s.setReg16 p v).clock = s.clock := by cases p <;> rfl
@[simp] theorem State.setReg16_cycles (p : Reg16) (v : Word) : (s.setReg16 p v).cycles = s.cycles := by cases p <;> rfl
@[simp] theorem State.setReg16_outputs (p : Reg16) (v : Word) : (s.setReg16 p v).outputs = s.outputs := by cases p <;> rfl
@[simp] theorem State.setReg16_mem (p : Reg16) (v : Word) : (s.setReg16 p v).mem = s.mem := by cases p <;> rfl
@[simp] theorem State.setReg16_params (p : Reg16) (v : Word) : (s.setReg16 p v).params = s.params := by cases p <;> rfl

/-! ### setStkReg -/

@[simp] theorem State.setStkReg_int (p : StkReg) (v : Word) : (s.setStkReg p v).int = s.int := by cases p <;> rfl
@[simp] theorem State.setStkReg_timer (p : StkReg) (v : Word) : (s.setStkReg p v).timer = s.timer := by cases p <;> rfl
@[simp] theorem State.setStkReg_joy (p : StkReg) (v : Word) : (s.setStkReg p v).joy = s.joy := by cases p <;> rfl
@[simp] theorem State.setStkReg_ppu (p : StkReg) (v : Word) : (s.setStkReg p v).ppu = s.ppu := by cases p <;> rfl
@[simp] theorem State.setStkReg_runState (p : StkReg) (v : Word) : (s.setStkReg p v).runState = s.runState := by cases p <;> rfl
@[simp] theorem State.setStkReg_bootOverlay (p : StkReg) (v : Word) : (s.setStkReg p v).bootOverlay = s.bootOverlay := by cases p <;> rfl
@[simp] theorem State.setStkReg_fault (p : StkReg) (v : Word) : (s.setStkReg p v).fault = s.fault := by cases p <;> rfl
@[simp] theorem State.setStkReg_hostQueue (p : StkReg) (v : Word) : (s.setStkReg p v).hostQueue = s.hostQueue := by cases p <;> rfl
@[simp] theorem State.setStkReg_clock (p : StkReg) (v : Word) : (s.setStkReg p v).clock = s.clock := by cases p <;> rfl
@[simp] theorem State.setStkReg_cycles (p : StkReg) (v : Word) : (s.setStkReg p v).cycles = s.cycles := by cases p <;> rfl
@[simp] theorem State.setStkReg_outputs (p : StkReg) (v : Word) : (s.setStkReg p v).outputs = s.outputs := by cases p <;> rfl
@[simp] theorem State.setStkReg_mem (p : StkReg) (v : Word) : (s.setStkReg p v).mem = s.mem := by cases p <;> rfl
@[simp] theorem State.setStkReg_params (p : StkReg) (v : Word) : (s.setStkReg p v).params = s.params := by cases p <;> rfl

/-! ### setSP -/

@[simp] theorem State.setSP_int (v : Word) : (s.setSP v).int = s.int := by rfl
@[simp] theorem State.setSP_timer (v : Word) : (s.setSP v).timer = s.timer := by rfl
@[simp] theorem State.setSP_joy (v : Word) : (s.setSP v).joy = s.joy := by rfl
@[simp] theorem State.setSP_ppu (v : Word) : (s.setSP v).ppu = s.ppu := by rfl
@[simp] theorem State.setSP_runState (v : Word) : (s.setSP v).runState = s.runState := by rfl
@[simp] theorem State.setSP_bootOverlay (v : Word) : (s.setSP v).bootOverlay = s.bootOverlay := by rfl
@[simp] theorem State.setSP_fault (v : Word) : (s.setSP v).fault = s.fault := by rfl
@[simp] theorem State.setSP_hostQueue (v : Word) : (s.setSP v).hostQueue = s.hostQueue := by rfl
@[simp] theorem State.setSP_clock (v : Word) : (s.setSP v).clock = s.clock := by rfl
@[simp] theorem State.setSP_cycles (v : Word) : (s.setSP v).cycles = s.cycles := by rfl
@[simp] theorem State.setSP_outputs (v : Word) : (s.setSP v).outputs = s.outputs := by rfl
@[simp] theorem State.setSP_mem (v : Word) : (s.setSP v).mem = s.mem := by rfl
@[simp] theorem State.setSP_params (v : Word) : (s.setSP v).params = s.params := by rfl

/-! ### setPC -/

@[simp] theorem State.setPC_int (v : Word) : (s.setPC v).int = s.int := by rfl
@[simp] theorem State.setPC_timer (v : Word) : (s.setPC v).timer = s.timer := by rfl
@[simp] theorem State.setPC_joy (v : Word) : (s.setPC v).joy = s.joy := by rfl
@[simp] theorem State.setPC_ppu (v : Word) : (s.setPC v).ppu = s.ppu := by rfl
@[simp] theorem State.setPC_runState (v : Word) : (s.setPC v).runState = s.runState := by rfl
@[simp] theorem State.setPC_bootOverlay (v : Word) : (s.setPC v).bootOverlay = s.bootOverlay := by rfl
@[simp] theorem State.setPC_fault (v : Word) : (s.setPC v).fault = s.fault := by rfl
@[simp] theorem State.setPC_hostQueue (v : Word) : (s.setPC v).hostQueue = s.hostQueue := by rfl
@[simp] theorem State.setPC_clock (v : Word) : (s.setPC v).clock = s.clock := by rfl
@[simp] theorem State.setPC_cycles (v : Word) : (s.setPC v).cycles = s.cycles := by rfl
@[simp] theorem State.setPC_outputs (v : Word) : (s.setPC v).outputs = s.outputs := by rfl
@[simp] theorem State.setPC_mem (v : Word) : (s.setPC v).mem = s.mem := by rfl
@[simp] theorem State.setPC_params (v : Word) : (s.setPC v).params = s.params := by rfl

/-! ### charge -/

@[simp] theorem State.charge_regs (n : Nat) : (s.charge n).regs = s.regs := by rfl
@[simp] theorem State.charge_int (n : Nat) : (s.charge n).int = s.int := by rfl
@[simp] theorem State.charge_timer (n : Nat) : (s.charge n).timer = s.timer := by rfl
@[simp] theorem State.charge_joy (n : Nat) : (s.charge n).joy = s.joy := by rfl
@[simp] theorem State.charge_ppu (n : Nat) : (s.charge n).ppu = s.ppu := by rfl
@[simp] theorem State.charge_runState (n : Nat) : (s.charge n).runState = s.runState := by rfl
@[simp] theorem State.charge_bootOverlay (n : Nat) : (s.charge n).bootOverlay = s.bootOverlay := by rfl
@[simp] theorem State.charge_fault (n : Nat) : (s.charge n).fault = s.fault := by rfl
@[simp] theorem State.charge_hostQueue (n : Nat) : (s.charge n).hostQueue = s.hostQueue := by rfl
@[simp] theorem State.charge_clock (n : Nat) : (s.charge n).clock = s.clock := by rfl
@[simp] theorem State.charge_outputs (n : Nat) : (s.charge n).outputs = s.outputs := by rfl
@[simp] theorem State.charge_mem (n : Nat) : (s.charge n).mem = s.mem := by rfl
@[simp] theorem State.charge_params (n : Nat) : (s.charge n).params = s.params := by rfl

/-! ### setRun -/

@[simp] theorem State.setRun_regs (r : RunState) : (s.setRun r).regs = s.regs := by rfl
@[simp] theorem State.setRun_int (r : RunState) : (s.setRun r).int = s.int := by rfl
@[simp] theorem State.setRun_timer (r : RunState) : (s.setRun r).timer = s.timer := by rfl
@[simp] theorem State.setRun_joy (r : RunState) : (s.setRun r).joy = s.joy := by rfl
@[simp] theorem State.setRun_ppu (r : RunState) : (s.setRun r).ppu = s.ppu := by rfl
@[simp] theorem State.setRun_bootOverlay (r : RunState) : (s.setRun r).bootOverlay = s.bootOverlay := by rfl
@[simp] theorem State.setRun_fault (r : RunState) : (s.setRun r).fault = s.fault := by rfl
@[simp] theorem State.setRun_hostQueue (r : RunState) : (s.setRun r).hostQueue = s.hostQueue := by rfl
@[simp] theorem State.setRun_clock (r : RunState) : (s.setRun r).clock = s.clock := by rfl
@[simp] theorem State.setRun_cycles (r : RunState) : (s.setRun r).cycles = s.cycles := by rfl
@[simp] theorem State.setRun_outputs (r : RunState) : (s.setRun r).outputs = s.outputs := by rfl
@[simp] theorem State.setRun_mem (r : RunState) : (s.setRun r).mem = s.mem := by rfl
@[simp] theorem State.setRun_params (r : RunState) : (s.setRun r).params = s.params := by rfl

/-! ### emit -/

@[simp] theorem State.emit_regs (o : Output) : (s.emit o).regs = s.regs := by rfl
@[simp] theorem State.emit_int (o : Output) : (s.emit o).int = s.int := by rfl
@[simp] theorem State.emit_timer (o : Output) : (s.emit o).timer = s.timer := by rfl
@[simp] theorem State.emit_joy (o : Output) : (s.emit o).joy = s.joy := by rfl
@[simp] theorem State.emit_ppu (o : Output) : (s.emit o).ppu = s.ppu := by rfl
@[simp] theorem State.emit_runState (o : Output) : (s.emit o).runState = s.runState := by rfl
@[simp] theorem State.emit_bootOverlay (o : Output) : (s.emit o).bootOverlay = s.bootOverlay := by rfl
@[simp] theorem State.emit_fault (o : Output) : (s.emit o).fault = s.fault := by rfl
@[simp] theorem State.emit_hostQueue (o : Output) : (s.emit o).hostQueue = s.hostQueue := by rfl
@[simp] theorem State.emit_clock (o : Output) : (s.emit o).clock = s.clock := by rfl
@[simp] theorem State.emit_cycles (o : Output) : (s.emit o).cycles = s.cycles := by rfl
@[simp] theorem State.emit_mem (o : Output) : (s.emit o).mem = s.mem := by rfl
@[simp] theorem State.emit_params (o : Output) : (s.emit o).params = s.params := by rfl

/-! ### setInterrupt -/

@[simp] theorem State.setInterrupt_regs (i : Nat) : (s.setInterrupt i).regs = s.regs := by rfl
@[simp] theorem State.setInterrupt_timer (i : Nat) : (s.setInterrupt i).timer = s.timer := by rfl
@[simp] theorem State.setInterrupt_joy (i : Nat) : (s.setInterrupt i).joy = s.joy := by rfl
@[simp] theorem State.setInterrupt_ppu (i : Nat) : (s.setInterrupt i).ppu = s.ppu := by rfl
@[simp] theorem State.setInterrupt_runState (i : Nat) : (s.setInterrupt i).runState = s.runState := by rfl
@[simp] theorem State.setInterrupt_bootOverlay (i : Nat) : (s.setInterrupt i).bootOverlay = s.bootOverlay := by rfl
@[simp] theorem State.setInterrupt_fault (i : Nat) : (s.setInterrupt i).fault = s.fault := by rfl
@[simp] theorem State.setInterrupt_hostQueue (i : Nat) : (s.setInterrupt i).hostQueue = s.hostQueue := by rfl
@[simp] theorem State.setInterrupt_clock (i : Nat) : (s.setInterrupt i).clock = s.clock := by rfl
@[simp] theorem State.setInterrupt_cycles (i : Nat) : (s.setInterrupt i).cycles = s.cycles := by rfl
@[simp] theorem State.setInterrupt_outputs (i : Nat) : (s.setInterrupt i).outputs = s.outputs := by rfl
@[simp] theorem State.setInterrupt_mem (i : Nat) : (s.setInterrupt i).mem = s.mem := by rfl
@[simp] theorem State.setInterrupt_params (i : Nat) : (s.setInterrupt i).params = s.params := by rfl

/-! ### resetInterrupt -/

@[simp] theorem State.resetInterrupt_regs (i : Nat) : (s.resetInterrupt i).regs = s.regs := by rfl
@[simp] theorem State.resetInterrupt_timer (i : Nat) : (s.resetInterrupt i).timer = s.timer := by rfl
@[simp] theorem State.resetInterrupt_joy (i : Nat) : (s.resetInterrupt i).joy = s.joy := by rfl
@[simp] theorem State.resetInterrupt_ppu (i : Nat) : (s.resetInterrupt i).ppu = s.ppu := by rfl
@[simp] theorem State.resetInterrupt_runState (i : Nat) : (s.resetInterrupt i).runState = s.runState := by rfl
@[simp] theorem State.resetInterrupt_bootOverlay (i : Nat) : (s.resetInterrupt i).bootOverlay = s.bootOverlay := by rfl
@[simp] theorem State.resetInterrupt_fault (i : Nat) : (s.resetInterrupt i).fault = s.fault := by rfl
@[simp] theorem State.resetInterrupt_hostQueue (i : Nat) : (s.resetInterrupt i).hostQueue = s.hostQueue := by rfl
@[simp] theorem State.resetInterrupt_clock (i : Nat) : (s.resetInterrupt i).clock = s.clock := by rfl
@[simp] theorem State.resetInterrupt_cycles (i : Nat) : (s.resetInterrupt i).cycles = s.cycles := by rfl
@[simp] theorem State.resetInterrupt_outputs (i : Nat) : (s.resetInterrupt i).outputs = s.outputs := by rfl
@[simp] theorem State.resetInterrupt_mem (i : Nat) : (s.resetInterrupt i).mem = s.mem := by rfl
@[simp] theorem State.resetInterrupt_params (i : Nat) : (s.resetInterrupt i).params = s.params := by rfl

/-! ### setIme -/

@[simp] theorem State.setIme_regs (b : Bool) : (s.setIme b).regs = s.regs := by rfl
@[simp] theorem State.setIme_timer (b : Bool) : (s.setIme b).timer = s.timer := by rfl
@[simp] theorem State.setIme_joy (b : Bool) : (s.setIme b).joy = s.joy := by rfl
@[simp] theorem State.setIme_ppu (b : Bool) : (s.setIme b).ppu = s.ppu := by rfl
@[simp] theorem State.setIme_runState (b : Bool) : (s.setIme b).runState = s.runState := by rfl
@[simp] theorem State.setIme_bootOverlay (b : Bool) : (s.setIme b).bootOverlay = s.bootOverlay := by rfl
@[simp] theorem State.setIme_fault (b : Bool) : (s.setIme b).fault = s.fault := by rfl
@[simp] theorem State.setIme_hostQueue (b : Bool) : (s.setIme b).hostQueue = s.hostQueue := by rfl
@[simp] theorem State.setIme_clock (b : Bool) : (s.setIme b).clock = s.clock := by rfl
@[simp] theorem State.setIme_cycles (b : Bool) : (s.setIme b).cycles = s.cycles := by rfl
@[simp] theorem State.setIme_outputs (b : Bool) : (s.setIme b).outputs = s.outputs := by rfl
@[simp] theorem State.setIme_mem (b : Bool) : (s.setIme b).mem = s.mem := by rfl
@[simp] theorem State.setIme_params (b : Bool) : (s.setIme b).params = s.params := by rfl

/-! ### setPipe1 -/

@[simp] theorem State.setPipe1_regs (r : ImeReq) : (s.setPipe1 r).regs = s.regs := by rfl
@[simp] theorem State.setPipe1_timer (r : ImeReq) : (s.setPipe1 r).timer = s.timer := by rfl
@[simp] theorem State.setPipe1_joy (r : ImeReq) : (s.setPipe1 r).joy = s.joy := by rfl
@[simp] theorem State.setPipe1_ppu (r : ImeReq) : (s.setPipe1 r).ppu = s.ppu := by rfl
@[simp] theorem State.setPipe1_runState (r : ImeReq) : (s.setPipe1 r).runState = s.runState := by rfl
@[simp] theorem State.setPipe1_bootOverlay (r : ImeReq) : (s.setPipe1 r).bootOverlay = s.bootOverlay := by rfl
@[simp] theorem State.setPipe1_fault (r : ImeReq) : (s.setPipe1 r).fault = s.fault := by rfl
@[simp] theorem State.setPipe1_hostQueue (r : ImeReq) : (s.setPipe1 r).hostQueue = s.hostQueue := by rfl
@[simp] theorem State.setPipe1_clock (r : ImeReq) : (s.setPipe1 r).clock = s.clock := by rfl
@[simp] theorem State.setPipe1_cycles (r : ImeReq) : (s.setPipe1 r).cycles = s.cycles := by rfl
@[simp] theorem State.setPipe1_outputs (r : ImeReq) : (s.setPipe1 r).outputs = s.outputs := by rfl
@[simp] theorem State.setPipe1_mem (r : ImeReq) : (s.setPipe1 r).mem = s.mem := by rfl
@[simp] theorem State.setPipe1_params (r : ImeReq) : (s.setPipe1 r).params = s.params := by rfl

/-! ### imeRetire -/

@[simp] theorem State.imeRetire_regs : (s.imeRetire).regs = s.regs := by rfl
@[simp] theorem State.imeRetire_timer : (s.imeRetire).timer = s.timer := by rfl
@[simp] theorem State.imeRetire_joy : (s.imeRetire).joy = s.joy := by rfl
@[simp] theorem State.imeRetire_ppu : (s.imeRetire).ppu = s.ppu := by rfl
@[simp] theorem State.imeRetire_runState : (s.imeRetire).runState = s.runState := by rfl
@[simp] theorem State.imeRetire_bootOverlay : (s.imeRetire).bootOverlay = s.bootOverlay := by rfl
@[simp] theorem State.imeRetire_fault : (s.imeRetire).fault = s.fault := by rfl
@[simp] theorem State.imeRetire_hostQueue : (s.imeRetire).hostQueue = s.hostQueue := by rfl
@[simp] theorem State.imeRetire_clock : (s.imeRetire).clock = s.clock := by rfl
@[simp] theorem State.imeRetire_cycles : (s.imeRetire).cycles = s.cycles := by rfl
@[simp] theorem State.imeRetire_outputs : (s.imeRetire).outputs = s.outputs := by rfl
@[simp] theorem State.imeRetire_mem : (s.imeRetire).mem = s.mem := by rfl
@[simp] theorem State.imeRetire_params : (s.imeRetire).params = s.params := by rfl

/-! ### setMode -/

@[simp] theorem State.setMode_regs (m : PpuMode) : (s.setMode m).regs = s.regs := by rfl
@[simp] theorem State.setMode_int (m : PpuMode) : (s.setMode m).int = s.int := by rfl
@[simp] theorem State.setMode_timer (m : PpuMode) : (s.setMode m).timer = s.timer := by rfl
@[simp] theorem State.setMode_joy (m : PpuMode) : (s.setMode m).joy = s.joy := by rfl
@[simp] theorem State.setMode_runState (m : PpuMode) : (s.setMode m).runState = s.runState := by rfl
@[simp] theorem State.setMode_bootOverlay (m : PpuMode) : (s.setMode m).bootOverlay = s.bootOverlay := by rfl
@[simp] theorem State.setMode_fault (m : PpuMode) : (s.setMode m).fault = s.fault := by rfl
@[simp] theorem State.setMode_hostQueue (m : PpuMode) : (s.setMode m).hostQueue = s.hostQueue := by rfl
@[simp] theorem State.setMode_clock (m : PpuMode) : (s.setMode m).clock = s.clock := by rfl
@[simp] theorem State.setMode_cycles (m : PpuMode) : (s.setMode m).cycles = s.cycles := by rfl
@[simp] theorem State.setMode_outputs (m : PpuMode) : (s.setMode m).outputs = s.outputs := by rfl
@[simp] theorem State.setMode_mem (m : PpuMode) : (s.setMode m).mem = s.mem := by rfl
@[simp] theorem State.setMode_params (m : PpuMode) : (s.setMode m).params = s.params := by rfl

/-! ### publishLine -/

@[simp] theorem State.publishLine_regs (n : Nat) : (s.publishLine n).regs = s.regs := by rfl
@[simp] theorem State.publishLine_int (n : Nat) : (s.publishLine n).int = s.int := by rfl
@[simp] theorem State.publishLine_timer (n : Nat) : (s.publishLine n).timer = s.timer := by rfl
@[simp] theorem State.publishLine_joy (n : Nat) : (s.publishLine n).joy = s.joy := by rfl
@[simp] theorem State.publishLine_runState (n : Nat) : (s.publishLine n).runState = s.runState := by rfl
@[simp] theorem State.publishLine_bootOverlay (n : Nat) : (s.publishLine n).bootOverlay = s.bootOverlay := by rfl
@[simp] theorem State.publishLine_fault (n : Nat) : (s.publishLine n).fault = s.fault := by rfl
@[simp] theorem State.publishLine_hostQueue (n : Nat) : (s.publishLine n).hostQueue = s.hostQueue := by rfl
@[simp] theorem State.publishLine_clock (n : Nat) : (s.publishLine n).clock = s.clock := by rfl
@[simp] theorem State.publishLine_cycles (n : Nat) : (s.publishLine n).cycles = s.cycles := by rfl
@[simp] theorem State.publishLine_outputs (n : Nat) : (s.publishLine n).outputs = s.outputs := by rfl
@[simp] theorem State.publishLine_mem (n : Nat) : (s.publishLine n).mem = s.mem := by rfl
@[simp] theorem State.publishLine_params (n : Nat) : (s.publishLine n).params = s.params := by rfl

/-! ### setDot -/

@[simp] theorem State.setDot_regs (n : Nat) : (s.setDot n).regs = s.regs := by rfl
@[simp] theorem State.setDot_int (n : Nat) : (s.setDot n).int = s.int := by rfl
@[simp] theorem State.setDot_timer (n : Nat) : (s.setDot n).timer = s.timer := by rfl
@[simp] theorem State.setDot_joy (n : Nat) : (s.setDot n).joy = s.joy := by rfl
@[simp] theorem State.setDot_runState (n : Nat) : (s.setDot n).runState = s.runState := by rfl
@[simp] theorem State.setDot_bootOverlay (n : Nat) : (s.setDot n).bootOverlay = s.bootOverlay := by rfl
@[simp] theorem State.setDot_fault (n : Nat) : (s.setDot n).fault = s.fault := by rfl
@[simp] theorem State.setDot_hostQueue (n : Nat) : (s.setDot n).hostQueue = s.hostQueue := by rfl
@[simp] theorem State.setDot_clock (n : Nat) : (s.setDot n).clock = s.clock := by rfl
@[simp] theorem State.setDot_cycles (n : Nat) : (s.setDot n).cycles = s.cycles := by rfl
@[simp] theorem State.setDot_outputs (n : Nat) : (s.setDot n).outputs = s.outputs := by rfl
@[simp] theorem State.setDot_mem (n : Nat) : (s.setDot n).mem = s.mem := by rfl
@[simp] theorem State.setDot_params (n : Nat) : (s.setDot n).params = s.params := by rfl

/-! ### ppuHome -/

@[simp] theorem State.ppuHome_regs : (s.ppuHome).regs = s.regs := by rfl
@[simp] theorem State.ppuHome_int : (s.ppuHome).int = s.int := by rfl
@[simp] theorem State.ppuHome_timer : (s.ppuHome).timer = s.timer := by rfl
@[simp] theorem State.ppuHome_joy : (s.ppuHome).joy = s.joy := by rfl
@[simp] theorem State.ppuHome_runState : (s.ppuHome).runState = s.runState := by rfl
@[simp] theorem State.ppuHome_bootOverlay : (s.ppuHome).bootOverlay = s.bootOverlay := by rfl
@[simp] theorem State.ppuHome_fault : (s.ppuHome).fault = s.fault := by rfl
@[simp] theorem State.ppuHome_hostQueue : (s.ppuHome).hostQueue = s.hostQueue := by rfl
@[simp] theorem State.ppuHome_clock : (s.ppuHome).clock = s.clock := by rfl
@[simp] theorem State.ppuHome_cycles : (s.ppuHome).cycles = s.cycles := by rfl
@[simp] theorem State.ppuHome_outputs : (s.ppuHome).outputs = s.outputs := by rfl
@[simp] theorem State.ppuHome_mem : (s.ppuHome).mem = s.mem := by rfl
@[simp] theorem State.ppuHome_params : (s.ppuHome).params = s.params := by rfl

/-! ### ppuDisable -/

@[simp] theorem State.ppuDisable_regs : (s.ppuDisable).regs = s.regs := by rfl
@[simp] theorem State.ppuDisable_int : (s.ppuDisable).int = s.int := by rfl
@[simp] theorem State.ppuDisable_timer : (s.ppuDisable).timer = s.timer := by rfl
@[simp] theorem State.ppuDisable_joy : (s.ppuDisable).joy = s.joy := by rfl
@[simp] theorem State.ppuDisable_runState : (s.ppuDisable).runState = s.runState := by rfl
@[simp] theorem State.ppuDisable_bootOverlay : (s.ppuDisable).bootOverlay = s.bootOverlay := by rfl
@[simp] theorem State.ppuDisable_fault : (s.ppuDisable).fault = s.fault := by rfl
@[simp] theorem State.ppuDisable_hostQueue : (s.ppuDisable).hostQueue = s.hostQueue := by rfl
@[simp] theorem State.ppuDisable_clock : (s.ppuDisable).clock = s.clock := by rfl
@[simp] theorem State.ppuDisable_cycles : (s.ppuDisable).cycles = s.cycles := by rfl
@[simp] theorem State.ppuDisable_mem : (s.ppuDisable).mem = s.mem := by rfl
@[simp] theorem State.ppuDisable_params : (s.ppuDisable).params = s.params := by rfl

/-! ### setLcdc -/

@[simp] theorem State.setLcdc_regs (v : Byte) : (s.setLcdc v).regs = s.regs := by rfl
@[simp] theorem State.setLcdc_int (v : Byte) : (s.setLcdc v).int = s.int := by rfl
@[simp] theorem State.setLcdc_timer (v : Byte) : (s.setLcdc v).timer = s.timer := by rfl
@[simp] theorem State.setLcdc_joy (v : Byte) : (s.setLcdc v).joy = s.joy := by rfl
@[simp] theorem State.setLcdc_runState (v : Byte) : (s.setLcdc v).runState = s.runState := by rfl
@[simp] theorem State.setLcdc_bootOverlay (v : Byte) : (s.setLcdc v).bootOverlay = s.bootOverlay := by rfl
@[simp] theorem State.setLcdc_fault (v : Byte) : (s.setLcdc v).fault = s.fault := by rfl
@[simp] theorem State.setLcdc_hostQueue (v : Byte) : (s.setLcdc v).hostQueue = s.hostQueue := by rfl
@[simp] theorem State.setLcdc_clock (v : Byte) : (s.setLcdc v).clock = s.clock := by rfl
@[simp] theorem State.setLcdc_cycles (v : Byte) : (s.setLcdc v).cycles = s.cycles := by rfl
@[simp] theorem State.setLcdc_outputs (v : Byte) : (s.setLcdc v).outputs = s.outputs := by rfl
@[simp] theorem State.setLcdc_mem (v : Byte) : (s.setLcdc v).mem = s.mem := by rfl
@[simp] theorem State.setLcdc_params (v : Byte) : (s.setLcdc v).params = s.params := by rfl

/-! ### setDivCounter -/

@[simp] theorem State.setDivCounter_regs (v : BitVec 16) : (s.setDivCounter v).regs = s.regs := by rfl
@[simp] theorem State.setDivCounter_int (v : BitVec 16) : (s.setDivCounter v).int = s.int := by rfl
@[simp] theorem State.setDivCounter_joy (v : BitVec 16) : (s.setDivCounter v).joy = s.joy := by rfl
@[simp] theorem State.setDivCounter_ppu (v : BitVec 16) : (s.setDivCounter v).ppu = s.ppu := by rfl
@[simp] theorem State.setDivCounter_runState (v : BitVec 16) : (s.setDivCounter v).runState = s.runState := by rfl
@[simp] theorem State.setDivCounter_bootOverlay (v : BitVec 16) : (s.setDivCounter v).bootOverlay = s.bootOverlay := by rfl
@[simp] theorem State.setDivCounter_fault (v : BitVec 16) : (s.setDivCounter v).fault = s.fault := by rfl
@[simp] theorem State.setDivCounter_hostQueue (v : BitVec 16) : (s.setDivCounter v).hostQueue = s.hostQueue := by rfl
@[simp] theorem State.setDivCounter_clock (v : BitVec 16) : (s.setDivCounter v).clock = s.clock := by rfl
@[simp] theorem State.setDivCounter_cycles (v : BitVec 16) : (s.setDivCounter v).cycles = s.cycles := by rfl
@[simp] theorem State.setDivCounter_outputs (v : BitVec 16) : (s.setDivCounter v).outputs = s.outputs := by rfl
@[simp] theorem State.setDivCounter_mem (v : BitVec 16) : (s.setDivCounter v).mem = s.mem := by rfl
@[simp] theorem State.setDivCounter_params (v : BitVec 16) : (s.setDivCounter v).params = s.params := by rfl

/-! ### setKeys -/

@[simp] theorem State.setKeys_regs (k : Keys) : (s.setKeys k).regs = s.regs := by rfl
@[simp] theorem State.setKeys_int (k : Keys) : (s.setKeys k).int = s.int := by rfl
@[simp] theorem State.setKeys_timer (k : Keys) : (s.setKeys k).timer = s.timer := by rfl
@[simp] theorem State.setKeys_ppu (k : Keys) : (s.setKeys k).ppu = s.ppu := by rfl
@[simp] theorem State.setKeys_runState (k : Keys) : (s.setKeys k).runState = s.runState := by rfl
@[simp] theorem State.setKeys_bootOverlay (k : Keys) : (s.setKeys k).bootOverlay = s.bootOverlay := by rfl
@[simp] theorem State.setKeys_fault (k : Keys) : (s.setKeys k).fault = s.fault := by rfl
@[simp] theorem State.setKeys_hostQueue (k : Keys) : (s.setKeys k).hostQueue = s.hostQueue := by rfl
@[simp] theorem State.setKeys_clock (k : Keys) : (s.setKeys k).clock = s.clock := by rfl
@[simp] theorem State.setKeys_cycles (k : Keys) : (s.setKeys k).cycles = s.cycles := by rfl
@[simp] theorem State.setKeys_outputs (k : Keys) : (s.setKeys k).outputs = s.outputs := by rfl
@[simp] theorem State.setKeys_mem (k : Keys) : (s.setKeys k).mem = s.mem := by rfl
@[simp] theorem State.setKeys_params (k : Keys) : (s.setKeys k).params = s.params := by rfl

/-! ### setQueue -/

@[simp] theorem State.setQueue_regs (q : List HostEvent) : (s.setQueue q).regs = s.regs := by rfl
@[simp] theorem State.setQueue_int (q : List HostEvent) : (s.setQueue q).int = s.int := by rfl
@[simp] theorem State.setQueue_timer (q : List HostEvent) : (s.setQueue q).timer = s.timer := by rfl
@[simp] theorem State.setQueue_joy (q : List HostEvent) : (s.setQueue q).joy = s.joy := by rfl
@[simp] theorem State.setQueue_ppu (q : List HostEvent) : (s.setQueue q).ppu = s.ppu := by rfl
@[simp] theorem State.setQueue_runState (q : List HostEvent) : (s.setQueue q).runState = s.runState := by rfl
@[simp] theorem State.setQueue_bootOverlay (q : List HostEvent) : (s.setQueue q).bootOverlay = s.bootOverlay := by rfl
@[simp] theorem State.setQueue_fault (q : List HostEvent) : (s.setQueue q).fault = s.fault := by rfl
@[simp] theorem State.setQueue_clock (q : List HostEvent) : (s.setQueue q).clock = s.clock := by rfl
@[simp] theorem State.setQueue_cycles (q : List HostEvent) : (s.setQueue q).cycles = s.cycles := by rfl
@[simp] theorem State.setQueue_outputs (q : List HostEvent) : (s.setQueue q).outputs = s.outputs := by rfl
@[simp] theorem State.setQueue_mem (q : List HostEvent) : (s.setQueue q).mem = s.mem := by rfl
@[simp] theorem State.setQueue_params (q : List HostEvent) : (s.setQueue q).params = s.params := by rfl

/-! ### setCell -/

@[simp] theorem State.setCell_regs (a : Word) (v : Byte) : (s.setCell a v).regs = s.regs := by rfl
@[simp] theorem State.setCell_int (a : Word) (v : Byte) : (s.setCell a v).int = s.int := by rfl
@[simp] theorem State.setCell_timer (a : Word) (v : Byte) : (s.setCell a v).timer = s.timer := by rfl
@[simp] theorem State.setCell_joy (a : Word) (v : Byte) : (s.setCell a v).joy = s.joy := by rfl
@[simp] theorem State.setCell_ppu (a : Word) (v : Byte) : (s.setCell a v).ppu = s.ppu := by rfl
@[simp] theorem State.setCell_runState (a : Word) (v : Byte) : (s.setCell a v).runState = s.runState := by rfl
@[simp] theorem State.setCell_bootOverlay (a : Word) (v : Byte) : (s.setCell a v).bootOverlay = s.bootOverlay := by rfl
@[simp] theorem State.setCell_fault (a : Word) (v : Byte) : (s.setCell a v).fault = s.fault := by rfl
@[simp] theorem State.setCell_hostQueue (a : Word) (v : Byte) : (s.setCell a v).hostQueue = s.hostQueue := by rfl
@[simp] theorem State.setCell_clock (a : Word) (v : Byte) : (s.setCell a v).clock = s.clock := by rfl
@[simp] theorem State.setCell_cycles (a : Word) (v : Byte) : (s.setCell a v).cycles = s.cycles := by rfl
@[simp] theorem State.setCell_outputs (a : Word) (v : Byte) : (s.setCell a v).outputs = s.outputs := by rfl
@[simp] theorem State.setCell_params (a : Word) (v : Byte) : (s.setCell a v).params = s.params := by rfl

/-! ### publishClock -/

@[simp] theorem State.publishClock_regs : (s.publishClock).regs = s.regs := by rfl
@[simp] theorem State.publishClock_int : (s.publishClock).int = s.int := by rfl
@[simp] theorem State.publishClock_timer : (s.publishClock).timer = s.timer := by rfl
@[simp] theorem State.publishClock_joy : (s.publishClock).joy = s.joy := by rfl
@[simp] theorem State.publishClock_ppu : (s.publishClock).ppu = s.ppu := by rfl
@[simp] theorem State.publishClock_runState : (s.publishClock).runState = s.runState := by rfl
@[simp] theorem State.publishClock_bootOverlay : (s.publishClock).bootOverlay = s.bootOverlay := by rfl
@[simp] theorem State.publishClock_fault : (s.publishClock).fault = s.fault := by rfl
@[simp] theorem State.publishClock_hostQueue : (s.publishClock).hostQueue = s.hostQueue := by rfl
@[simp] theorem State.publishClock_cycles : (s.publishClock).cycles = s.cycles := by rfl
@[simp] theorem State.publishClock_outputs : (s.publishClock).outputs = s.outputs := by rfl
@[simp] theorem State.publishClock_mem : (s.publishClock).mem = s.mem := by rfl
@[simp] theorem State.publishClock_params : (s.publishClock).params = s.params := by rfl

/-! ### Values inside the register file -/

@[simp] theorem State.setReg_regs_f (r : Reg8) (v : Byte) : (s.setReg r v).regs.f = s.regs.f := by cases r <;> rfl
@[simp] theorem State.setReg_regs_sp (r : Reg8) (v : Byte) : (s.setReg r v).regs.sp = s.regs.sp := by cases r <;> rfl
@[simp] theorem State.setReg_regs_pc (r : Reg8) (v : Byte) : (s.setReg r v).regs.pc = s.regs.pc := by cases r <;> rfl
@[simp] theorem State.setFlags_regs_a (x : Flags) : (s.setFlags x).regs.a = s.regs.a := by rfl
@[simp] theorem State.setFlags_regs_b (x : Flags) : (s.setFlags x).regs.b = s.regs.b := by rfl
@[simp] theorem State.setFlags_regs_c (x : Flags) : (s.setFlags x).regs.c = s.regs.c := by rfl
@[simp] theorem State.setFlags_regs_d (x : Flags) : (s.setFlags x).regs.d = s.regs.d := by rfl
@[simp] theorem State.setFlags_regs_e (x : Flags) : (s.setFlags x).regs.e = s.regs.e := by rfl
@[simp] theorem State.setFlags_regs_h (x : Flags) : (s.setFlags x).regs.h = s.regs.h := by rfl
@[simp] theorem State.setFlags_regs_l (x : Flags) : (s.setFlags x).regs.l = s.regs.l := by rfl
@[simp] theorem State.setFlags_regs_sp (x : Flags) : (s.setFlags x).regs.sp = s.regs.sp := by rfl
@[simp] theorem State.setFlags_regs_pc (x : Flags) : (s.setFlags x).regs.pc = s.regs.pc := by rfl
@[simp] theorem State.setFlags_regs_f (x : Flags) : (s.setFlags x).regs.f = packFlags x := by rfl
@[simp] theorem State.setF_regs_a (v : Byte) : (s.setF v).regs.a = s.regs.a := by rfl
@[simp] theorem State.setF_regs_b (v : Byte) : (s.setF v).regs.b = s.regs.b := by rfl
@[simp] theorem State.setF_regs_c (v : Byte) : (s.setF v).regs.c = s.regs.c := by rfl
@[simp] theorem State.setF_regs_d (v : Byte) : (s.setF v).regs.d = s.regs.d := by rfl
@[simp] theorem State.setF_regs_e (v : Byte) : (s.setF v).regs.e = s.regs.e := by rfl
@[simp] theorem State.setF_regs_h (v : Byte) : (s.setF v).regs.h = s.regs.h := by rfl
@[simp] theorem State.setF_regs_l (v : Byte) : (s.setF v).regs.l = s.regs.l := by rfl
@[simp] theorem State.setF_regs_sp (v : Byte) : (s.setF v).regs.sp = s.regs.sp := by rfl
@[simp] theorem State.setF_regs_pc (v : Byte) : (s.setF v).regs.pc = s.regs.pc := by rfl
@[simp] theorem State.setF_regs_f (v : Byte) : (s.setF v).regs.f = v &&& 0xF0 := by rfl
@[simp] theorem State.setHL_regs_a (v : Word) : (s.setHL v).regs.a = s.regs.a := by rfl
@[simp] theorem State.setHL_regs_f (v : Word) : (s.setHL v).regs.f = s.regs.f := by rfl
@[simp] theorem State.setHL_regs_b (v : Word) : (s.setHL v).regs.b = s.regs.b := by rfl
@[simp] theorem State.setHL_regs_c (v : Word) : (s.setHL v).regs.c = s.regs.c := by rfl
@[simp] theorem State.setHL_regs_d (v : Word) : (s.setHL v).regs.d = s.regs.d := by rfl
@[simp] theorem State.setHL_regs_e (v : Word) : (s.setHL v).regs.e = s.regs.e := by rfl
@[simp] theorem State.setHL_regs_sp (v : Word) : (s.setHL v).regs.sp = s.regs.sp := by rfl
@[simp] theorem State.setHL_regs_pc (v : Word) : (s.setHL v).regs.pc = s.regs.pc := by rfl
@[simp] theorem State.setHL_regs_h (v : Word) : (s.setHL v).regs.h = hi v := by rfl
@[simp] theorem State.setHL_regs_l (v : Word) : (s.setHL v).regs.l = lo v := by rfl
@[simp] theorem State.setReg16_regs_a (p : Reg16) (v : Word) : (s.setReg16 p v).regs.a = s.regs.a := by cases p <;> rfl
@[simp] theorem State.setReg16_regs_f (p : Reg16) (v : Word) : (s.setReg16 p v).regs.f = s.regs.f := by cases p <;> rfl
@[simp] theorem State.setReg16_regs_pc (p : Reg16) (v : Word) : (s.setReg16 p v).regs.pc = s.regs.pc := by cases p <;> rfl
@[simp] theorem State.setStkReg_regs_sp (p : StkReg) (v : Word) : (s.setStkReg p v).regs.sp = s.regs.sp := by cases p <;> rfl
@[simp] theorem State.setStkReg_regs_pc (p : StkReg) (v : Word) : (s.setStkReg p v).regs.pc = s.regs.pc := by cases p <;> rfl
@[simp] theorem State.setSP_regs_a (v : Word) : (s.setSP v).regs.a = s.regs.a := by rfl
@[simp] theorem State.setPC_regs_a (v : Word) : (s.setPC v).regs.a = s.regs.a := by rfl
@[simp] theorem State.setSP_regs_f (v : Word) : (s.setSP v).regs.f = s.regs.f := by rfl
@[simp] theorem State.setPC_regs_f (v : Word) : (s.setPC v).regs.f = s.regs.f := by rfl
@[simp] theorem State.setSP_regs_b (v : Word) : (s.setSP v).regs.b = s.regs.b := by rfl
@[simp] theorem State.setPC_regs_b (v : Word) : (s.setPC v).regs.b = s.regs.b := by rfl
@[simp] theorem State.setSP_regs_c (v : Word) : (s.setSP v).regs.c = s.regs.c := by rfl
@[simp] theorem State.setPC_regs_c (v : Word) : (s.setPC v).regs.c = s.regs.c := by rfl
@[simp] theorem State.setSP_regs_d (v : Word) : (s.setSP v).regs.d = s.regs.d := by rfl
@[simp] theorem State.setPC_regs_d (v : Word) : (s.setPC v).regs.d = s.regs.d := by rfl
@[simp] theorem State.setSP_regs_e (v : Word) : (s.setSP v).regs.e = s.regs.e := by rfl
@[simp] theorem State.setPC_regs_e (v : Word) : (s.setPC v).regs.e = s.regs.e := by rfl
@[simp] theorem State.setSP_regs_h (v : Word) : (s.setSP v).regs.h = s.regs.h := by rfl
@[simp] theorem State.setPC_regs_h (v : Word) : (s.setPC v).regs.h = s.regs.h := by rfl
@[simp] theorem State.setSP_regs_l (v : Word) : (s.setSP v).regs.l = s.regs.l := by rfl
@[simp] theorem State.setPC_regs_l (v : Word) : (s.setPC v).regs.l = s.regs.l := by rfl
@[simp] theorem State.setSP_regs_sp (v : Word) : (s.setSP v).regs.sp = v := by rfl
@[simp] theorem State.setPC_regs_sp (v : Word) : (s.setPC v).regs.sp = s.regs.sp := by rfl
@[simp] theorem State.setSP_regs_pc (v : Word) : (s.setSP v).regs.pc = s.regs.pc := by rfl
@[simp] theorem State.setPC_regs_pc (v : Word) : (s.setPC v).regs.pc = v := by rfl

/-! ### Values elsewhere -/

@[simp] theorem State.charge_cycles (n : Nat) : (s.charge n).cycles = s.cycles + n := by rfl
@[simp] theorem State.setRun_runState (r : RunState) : (s.setRun r).runState = r := by rfl
@[simp] theorem State.emit_outputs (o : Output) : (s.emit o).outputs = s.outputs ++ [o] := by rfl
@[simp] theorem State.setQueue_hostQueue (q : List HostEvent) : (s.setQueue q).hostQueue = q := by rfl
@[simp] theorem State.publishClock_clock : (s.publishClock).clock = s.clock + s.cycles := by rfl
@[simp] theorem State.setCell_mem (a : Word) (v : Byte) : (s.setCell a v).mem = s.mem.set (cellOf a) v := by rfl
@[simp] theorem State.setIme_int_pipe0 (b : Bool) : (s.setIme b).int.pipe0 = s.int.pipe0 := by rfl
@[simp] theorem State.setIme_int_pipe1 (b : Bool) : (s.setIme b).int.pipe1 = s.int.pipe1 := by rfl
@[simp] theorem State.setIme_int_ie (b : Bool) : (s.setIme b).int.ie = s.int.ie := by rfl
@[simp] theorem State.setIme_int_if (b : Bool) : (s.setIme b).int.if_ = s.int.if_ := by rfl
@[simp] theorem State.setIme_int_ime (b : Bool) : (s.setIme b).int.ime = b := by rfl
@[simp] theorem State.setInterrupt_int_ime (i : Nat) : (s.setInterrupt i).int.ime = s.int.ime := by rfl
@[simp] theorem State.setInterrupt_int_pipe0 (i : Nat) : (s.setInterrupt i).int.pipe0 = s.int.pipe0 := by rfl
@[simp] theorem State.setInterrupt_int_pipe1 (i : Nat) : (s.setInterrupt i).int.pipe1 = s.int.pipe1 := by rfl
@[simp] theorem State.setInterrupt_int_ie (i : Nat) : (s.setInterrupt i).int.ie = s.int.ie := by rfl
@[simp] theorem State.resetInterrupt_int_ime (i : Nat) : (s.resetInterrupt i).int.ime = s.int.ime := by rfl
@[simp] theorem State.resetInterrupt_int_pipe0 (i : Nat) : (s.resetInterrupt i).int.pipe0 = s.int.pipe0 := by rfl
@[simp] theorem State.resetInterrupt_int_pipe1 (i : Nat) : (s.resetInterrupt i).int.pipe1 = s.int.pipe1 := by rfl
@[simp] theorem State.resetInterrupt_int_ie (i : Nat) : (s.resetInterrupt i).int.ie = s.int.ie := by rfl
@[simp] theorem State.setInterrupt_int_if (i : Nat) : (s.setInterrupt i).int.if_ = s.int.if_ ||| ((1 : BitVec 5) <<< i) := by rfl
@[simp] theorem State.resetInterrupt_int_if (i : Nat) : (s.resetInterrupt i).int.if_ = s.int.if_ &&& ~~~((1 : BitVec 5) <<< i) := by rfl
@[simp] theorem State.setMode_ppu_lcdc (m : PpuMode) : (s.setMode m).ppu.lcdc = s.ppu.lcdc := by rfl
@[simp] theorem State.setMode_ppu_statSel (m : PpuMode) : (s.setMode m).ppu.statSel = s.ppu.statSel := by rfl
@[simp] theorem State.setMode_ppu_scy (m : PpuMode) : (s.setMode m).ppu.scy = s.ppu.scy := by rfl
@[simp] theorem State.setMode_ppu_scx (m : PpuMode) : (s.setMode m).ppu.scx = s.ppu.scx := by rfl
@[simp] theorem State.setMode_ppu_ly (m : PpuMode) : (s.setMode m).ppu.ly = s.ppu.ly := by rfl
@[simp] theorem State.setMode_ppu_lyc (m : PpuMode) : (s.setMode m).ppu.lyc = s.ppu.lyc := by rfl
@[simp] theorem State.setMode_ppu_dma (m : PpuMode) : (s.setMode m).ppu.dma = s.ppu.dma := by rfl
@[simp] theorem State.setMode_ppu_bgp (m : PpuMode) : (s.setMode m).ppu.bgp = s.ppu.bgp := by rfl
@[simp] theorem State.setMode_ppu_obp0 (m : PpuMode) : (s.setMode m).ppu.obp0 = s.ppu.obp0 := by rfl
@[simp] theorem State.setMode_ppu_obp1 (m : PpuMode) : (s.setMode m).ppu.obp1 = s.ppu.obp1 := by rfl
@[simp] theorem State.setMode_ppu_wy (m : PpuMode) : (s.setMode m).ppu.wy = s.ppu.wy := by rfl
@[simp] theorem State.setMode_ppu_wx (m : PpuMode) : (s.setMode m).ppu.wx = s.ppu.wx := by rfl
@[simp] theorem State.setMode_ppu_mode (m : PpuMode) : (s.setMode m).ppu.mode = m := by rfl
@[simp] theorem State.setMode_ppu_dot (m : PpuMode) : (s.setMode m).ppu.dot = s.ppu.dot := by rfl
@[simp] theorem State.setMode_ppu_line (m : PpuMode) : (s.setMode m).ppu.line = s.ppu.line := by rfl
@[simp] theorem State.setDot_ppu_lcdc (n : Nat) : (s.setDot n).ppu.lcdc = s.ppu.lcdc := by rfl
@[simp] theorem State.setDot_ppu_statSel (n : Nat) : (s.setDot n).ppu.statSel = s.ppu.statSel := by rfl
@[simp] theorem State.setDot_ppu_scy (n : Nat) : (s.setDot n).ppu.scy = s.ppu.scy := by rfl
@[simp] theorem State.setDot_ppu_scx (n : Nat) : (s.setDot n).ppu.scx = s.ppu.scx := by rfl
@[simp] theorem State.setDot_ppu_ly (n : Nat) : (s.setDot n).ppu.ly = s.ppu.ly := by rfl
@[simp] theorem State.setDot_ppu_lyc (n : Nat) : (s.setDot n).ppu.lyc = s.ppu.lyc := by rfl
@[simp] theorem State.setDot_ppu_dma (n : Nat) : (s.setDot n).ppu.dma = s.ppu.dma := by rfl
@[simp] theorem State.setDot_ppu_bgp (n : Nat) : (s.setDot n).ppu.bgp = s.ppu.bgp := by rfl
@[simp] theorem State.setDot_ppu_obp0 (n : Nat) : (s.setDot n).ppu.obp0 = s.ppu.obp0 := by rfl
@[simp] theorem State.setDot_ppu_obp1 (n : Nat) : (s.setDot n).ppu.obp1 = s.ppu.obp1 := by rfl
@[simp] theorem State.setDot_ppu_wy (n : Nat) : (s.setDot n).ppu.wy = s.ppu.wy := by rfl
@[simp] theorem State.setDot_ppu_wx (n : Nat) : (s.setDot n).ppu.wx = s.ppu.wx := by rfl
@[simp] theorem State.setDot_ppu_mode (n : Nat) : (s.setDot n).ppu.mode = s.ppu.mode := by rfl
@[simp] theorem State.setDot_ppu_dot (n : Nat) : (s.setDot n).ppu.dot = n := by rfl
@[simp] theorem State.setDot_ppu_line (n : Nat) : (s.setDot n).ppu.line = s.ppu.line := by rfl
@[simp] theorem State.publishLine_ppu_lcdc (n : Nat) : (s.publishLine n).ppu.lcdc = s.ppu.lcdc := by rfl
@[simp] theorem State.publishLine_ppu_statSel (n : Nat) : (s.publishLine n).ppu.statSel = s.ppu.statSel := by rfl
@[simp] theorem State.publishLine_ppu_scy (n : Nat) : (s.publishLine n).ppu.scy = s.ppu.scy := by rfl
@[simp] theorem State.publishLine_ppu_scx (n : Nat) : (s.publishLine n).ppu.scx = s.ppu.scx := by rfl
@[simp] theorem State.publishLine_ppu_ly (n : Nat) : (s.publishLine n).ppu.ly = BitVec.ofNat 8 n := by rfl
@[simp] theorem State.publishLine_ppu_lyc (n : Nat) : (s.publishLine n).ppu.lyc = s.ppu.lyc := by rfl
@[simp] theorem State.publishLine_ppu_dma (n : Nat) : (s.publishLine n).ppu.dma = s.ppu.dma := by rfl
@[simp] theorem State.publishLine_ppu_bgp (n : Nat) : (s.publishLine n).ppu.bgp = s.ppu.bgp := by rfl
@[simp] theorem State.publishLine_ppu_obp0 (n : Nat) : (s.publishLine n).ppu.obp0 = s.ppu.obp0 := by rfl
@[simp] theorem State.publishLine_ppu_obp1 (n : Nat) : (s.publishLine n).ppu.obp1 = s.ppu.obp1 := by rfl
@[simp] theorem State.publishLine_ppu_wy (n : Nat) : (s.publishLine n).ppu.wy = s.ppu.wy := by rfl
@[simp] theorem State.publishLine_ppu_wx (n : Nat) : (s.publishLine n).ppu.wx = s.ppu.wx := by rfl
@[simp] theorem State.publishLine_ppu_mode (n : Nat) : (s.publishLine n).ppu.mode = s.ppu.mode := by rfl
@[simp] theorem State.publishLine_ppu_dot (n : Nat) : (s.publishLine n).ppu.dot = s.ppu.dot := by rfl
@[simp] theorem State.publishLine_ppu_line (n : Nat) : (s.publishLine n).ppu.line = n := by rfl
@[simp] theorem State.ppuHome_ppu_lcdc : (s.ppuHome).ppu.lcdc = s.ppu.lcdc := by rfl
@[simp] theorem State.ppuHome_ppu_statSel : (s.ppuHome).ppu.statSel = s.ppu.statSel := by rfl
@[simp] theorem State.ppuHome_ppu_scy : (s.ppuHome).ppu.scy = s.ppu.scy := by rfl
@[simp] theorem State.ppuHome_ppu_scx : (s.ppuHome).ppu.scx = s.ppu.scx := by rfl
@[simp] theorem State.ppuHome_ppu_ly : (s.ppuHome).ppu.ly = 0x00 := by rfl
@[simp] theorem State.ppuHome_ppu_lyc : (s.ppuHome).ppu.lyc = s.ppu.lyc := by rfl
@[simp] theorem State.ppuHome_ppu_dma : (s.ppuHome).ppu.dma = s.ppu.dma := by rfl
@[simp] theorem State.ppuHome_ppu_bgp : (s.ppuHome).ppu.bgp = s.ppu.bgp := by rfl
@[simp] theorem State.ppuHome_ppu_obp0 : (s.ppuHome).ppu.obp0 = s.ppu.obp0 := by rfl
@[simp] theorem State.ppuHome_ppu_obp1 : (s.ppuHome).ppu.obp1 = s.ppu.obp1 := by rfl
@[simp] theorem State.ppuHome_ppu_wy : (s.ppuHome).ppu.wy = s.ppu.wy := by rfl
@[simp] theorem State.ppuHome_ppu_wx : (s.ppuHome).ppu.wx = s.ppu.wx := by rfl
@[simp] theorem State.ppuHome_ppu_mode : (s.ppuHome).ppu.mode = .oamSearch := by rfl
@[simp] theorem State.ppuHome_ppu_dot : (s.ppuHome).ppu.dot = 0 := by rfl
@[simp] theorem State.ppuHome_ppu_line : (s.ppuHome).ppu.line = 0 := by rfl
@[simp] theorem State.setLcdc_ppu_lcdc (v : Byte) : (s.setLcdc v).ppu.lcdc = v := by rfl
@[simp] theorem State.setLcdc_ppu_statSel (v : Byte) : (s.setLcdc v).ppu.statSel = s.ppu.statSel := by rfl
@[simp] theorem State.setLcdc_ppu_scy (v : Byte) : (s.setLcdc v).ppu.scy = s.ppu.scy := by rfl
@[simp] theorem State.setLcdc_ppu_scx (v : Byte) : (s.setLcdc v).ppu.scx = s.ppu.scx := by rfl
@[simp] theorem State.setLcdc_ppu_ly (v : Byte) : (s.setLcdc v).ppu.ly = s.ppu.ly := by rfl
@[simp] theorem State.setLcdc_ppu_lyc (v : Byte) : (s.setLcdc v).ppu.lyc = s.ppu.lyc := by rfl
@[simp] theorem State.setLcdc_ppu_dma (v : Byte) : (s.setLcdc v).ppu.dma = s.ppu.dma := by rfl
@[simp] theorem State.setLcdc_ppu_bgp (v : Byte) : (s.setLcdc v).ppu.bgp = s.ppu.bgp := by rfl
@[simp] theorem State.setLcdc_ppu_obp0 (v : Byte) : (s.setLcdc v).ppu.obp0 = s.ppu.obp0 := by rfl
@[simp] theorem State.setLcdc_ppu_obp1 (v : Byte) : (s.setLcdc v).ppu.obp1 = s.ppu.obp1 := by rfl
@[simp] theorem State.setLcdc_ppu_wy (v : Byte) : (s.setLcdc v).ppu.wy = s.ppu.wy := by rfl
@[simp] theorem State.setLcdc_ppu_wx (v : Byte) : (s.setLcdc v).ppu.wx = s.ppu.wx := by rfl
@[simp] theorem State.setLcdc_ppu_mode (v : Byte) : (s.setLcdc v).ppu.mode = s.ppu.mode := by rfl
@[simp] theorem State.setLcdc_ppu_dot (v : Byte) : (s.setLcdc v).ppu.dot = s.ppu.dot := by rfl
@[simp] theorem State.setLcdc_ppu_line (v : Byte) : (s.setLcdc v).ppu.line = s.ppu.line := by rfl
@[simp] theorem State.setDivCounter_timer_tima (v : BitVec 16) : (s.setDivCounter v).timer.tima = s.timer.tima := by rfl
@[simp] theorem State.setDivCounter_timer_tma (v : BitVec 16) : (s.setDivCounter v).timer.tma = s.timer.tma := by rfl
@[simp] theorem State.setDivCounter_timer_tac (v : BitVec 16) : (s.setDivCounter v).timer.tac = s.timer.tac := by rfl
@[simp] theorem State.setDivCounter_timer_div (v : BitVec 16) : (s.setDivCounter v).timer.div = v := by rfl
@[simp] theorem State.setKeys_joy_p1Sel (k : Keys) : (s.setKeys k).joy.p1Sel = s.joy.p1Sel := by rfl
@[simp] theorem State.setKeys_joy_keys (k : Keys) : (s.setKeys k).joy.keys = k := by rfl

/-! ### Reading a register after writing one -/

@[simp] theorem State.reg_setReg_same (r : Reg8) (v : Byte) : (s.setReg r v).reg r = v := by cases r <;> rfl

theorem State.reg_setReg_other (r q : Reg8) (v : Byte) (h : q ≠ r) : (s.setReg r v).reg q = s.reg q := by
  cases r <;> cases q <;> first | rfl | exact absurd rfl h

@[simp] theorem State.reg_setFlags (x : Flags) (r : Reg8) : (s.setFlags x).reg r = s.reg r := by cases r <;> rfl
@[simp] theorem State.reg_charge (n : Nat) (r : Reg8) : (s.charge n).reg r = s.reg r := by cases r <;> rfl
@[simp] theorem State.reg_setPC (v : Word) (r : Reg8) : (s.setPC v).reg r = s.reg r := by cases r <;> rfl
@[simp] theorem State.reg_setSP (v : Word) (r : Reg8) : (s.setSP v).reg r = s.reg r := by cases r <;> rfl
@[simp] theorem State.flags_setReg (r : Reg8) (v : Byte) : (s.setReg r v).flags = s.flags := by cases r <;> rfl
@[simp] theorem State.flags_charge (n : Nat) : (s.charge n).flags = s.flags := rfl
@[simp] theorem State.hl_charge (n : Nat) : (s.charge n).hl = s.hl := rfl
@[simp] theorem State.hl_setFlags (x : Flags) : (s.setFlags x).hl = s.hl := rfl
@[simp] theorem State.hl_setPC (v : Word) : (s.setPC v).hl = s.hl := rfl
@[simp] theorem State.hl_setSP (v : Word) : (s.setSP v).hl = s.hl := rfl

end Sys2Proof.Machine
end

