-- ==== Sys2Proof/Laws/Bus.lean ====
section
/-! SUPPORT. What the bus can do, said once: when an access faults, and the four things a write can leave. -/

namespace Sys2Proof.Machine

/-! ### Answers, reads and writes -/

@[simp] theorem State.answers_charge (s : State) (n : Nat) (a : Word) : (s.charge n).answers a = s.answers a := rfl
@[simp] theorem State.answers_setPC (s : State) (v a : Word) : (s.setPC v).answers a = s.answers a := rfl
@[simp] theorem State.answers_setSP (s : State) (v a : Word) : (s.setSP v).answers a = s.answers a := rfl

theorem State.answers_congr {s t : State} (h : t.params = s.params) (a : Word) : t.answers a = s.answers a := by
  simp [State.answers, h]

/-- The I/O row of R75 is the range 0xFF00 to 0xFF7F. -/
theorem region_io {o : Bool} {a : Word} : regionOf o a = .io ↔ 0xFF00 ≤ a.toNat ∧ a.toNat < 0xFF80 := by
  unfold regionOf
  constructor
  · intro h
    repeat' split at h
    all_goals first
      | exact absurd h (by decide)
      | omega
  · intro h
    repeat' split
    all_goals first
      | rfl
      | omega

/-- The external RAM row of R75 is the range 0xA000 to 0xBFFF. -/
theorem region_extRam {o : Bool} {a : Word} : regionOf o a = .extRam ↔ 0xA000 ≤ a.toNat ∧ a.toNat < 0xC000 := by
  unfold regionOf
  constructor
  · intro h
    repeat' split at h
    all_goals first
      | exact absurd h (by decide)
      | omega
  · intro h
    repeat' split
    all_goals first
      | rfl
      | omega

/-- Which row an address selects decides whether it is mapped (R93, R94). -/
theorem mapped_eq (x o : Bool) (a : Word) :
    mapped x a = match regionOf o a with
      | .extRam => x
      | .io => (ioReg? a).isSome
      | _ => true := by
  unfold mapped
  split
  · rename_i h; rw [region_extRam.2 h]
  · rename_i h1
    split
    · rename_i h; rw [region_io.2 h]
    · rename_i h2
      have e1 : regionOf o a ≠ .extRam := fun h => h1 (region_extRam.1 h)
      have e2 : regionOf o a ≠ .io := fun h => h2 (region_io.1 h)
      revert e1 e2
      cases regionOf o a <;> simp

/-- A read either returns a byte or, at an unmapped address under BUS_STRICT, faults (R71, R94). -/
theorem State.memRead_eq (s : State) (a : Word) :
    s.memRead a = if s.answers a then .ok (s.readByte a) else .error (.busUnmapped a .read) := by
  have hm := mapped_eq s.params.extRam s.bootOverlay a
  unfold State.answers State.readByte
  rw [hm]
  unfold State.memRead State.region State.unmappedRead
  cases h : regionOf s.bootOverlay a <;> simp
  · cases hx : s.params.extRam <;> cases hb : s.params.busStrict <;> simp
  · cases hi : ioReg? a <;> cases hb : s.params.busStrict <;> simp

/-- A write either succeeds or, at an unmapped address under BUS_STRICT, faults (R72, R94). -/
theorem State.memWrite_eq (s : State) (a : Word) (v : Byte) :
    s.memWrite a v = if s.answers a then .ok (s.wrote a v) else .error (.busUnmapped a .write) := by
  have hm := mapped_eq s.params.extRam s.bootOverlay a
  unfold State.answers State.wrote
  rw [hm]
  unfold State.memWrite State.region State.unmappedWrite
  cases h : regionOf s.bootOverlay a <;> simp
  · cases hx : s.params.extRam <;> cases hb : s.params.busStrict <;> simp
  · cases hi : ioReg? a <;> cases hb : s.params.busStrict <;> simp

theorem State.memRead_ok {s : State} {a : Word} (h : s.answers a = true) : s.memRead a = .ok (s.readByte a) := by
  simp [State.memRead_eq, h]

theorem State.memWrite_ok {s : State} {a : Word} (h : s.answers a = true) (v : Byte) :
    s.memWrite a v = .ok (s.wrote a v) := by
  simp [State.memWrite_eq, h]

/-- Where a cell stands in the address space (R75). -/
theorem isCell_cellOf {o : Bool} {a : Word} {x : Region} (h : regionOf o a = x)
    (hx : x = .vram ∨ x = .extRam ∨ x = .wram ∨ x = .echo ∨ x = .oam ∨ x = .hram) :
    isCell (cellOf a) = true ∧ 0x8000 ≤ cellOf a := by
  subst h
  unfold regionOf at hx
  unfold cellOf isCell
  repeat' split at hx
  all_goals first
    | (exfalso; revert hx; decide)
    | (split <;> simp <;> omega)

/-- What a write leaves, one of four (R72): the same state; a storage cell above the ROM written; an I/O register written;
IE written. -/
theorem State.wrote_cases (s : State) (a : Word) (v : Byte) :
    s.wrote a v = s ∨
    (isCell (cellOf a) = true ∧ 0x8000 ≤ cellOf a ∧ s.wrote a v = s.setCell a v) ∨
    (∃ r, ioReg? a = some r ∧ s.wrote a v = s.ioWrite r v) ∨
    (a.toNat = 0xFFFF ∧ s.wrote a v = { s with int := { s.int with ie := v } }) := by
  unfold State.wrote State.memWrite State.region State.unmappedWrite
  cases h : regionOf s.bootOverlay a
  · exact .inl rfl
  · exact .inl rfl
  · exact .inr (.inl ⟨(isCell_cellOf h (by simp)).1, (isCell_cellOf h (by simp)).2, rfl⟩)
  · cases hx : s.params.extRam <;> cases hb : s.params.busStrict <;> simp
    · exact .inr (.inl (isCell_cellOf h (by simp)))
    · exact .inr (.inl (isCell_cellOf h (by simp)))
  · exact .inr (.inl ⟨(isCell_cellOf h (by simp)).1, (isCell_cellOf h (by simp)).2, rfl⟩)
  · exact .inr (.inl ⟨(isCell_cellOf h (by simp)).1, (isCell_cellOf h (by simp)).2, rfl⟩)
  · exact .inr (.inl ⟨(isCell_cellOf h (by simp)).1, (isCell_cellOf h (by simp)).2, rfl⟩)
  · exact .inl rfl
  · cases hi : ioReg? a with
    | none => cases hb : s.params.busStrict <;> simp
    | some r => exact .inr (.inr (.inl ⟨r, rfl, rfl⟩))
  · exact .inr (.inl ⟨(isCell_cellOf h (by simp)).1, (isCell_cellOf h (by simp)).2, rfl⟩)
  · refine .inr (.inr (.inr ⟨?_, rfl⟩))
    have := a.isLt
    unfold regionOf at h
    repeat' split at h
    all_goals first
      | exact absurd h (by decide)
      | omega

/-! ### What a write never touches -/

/-- The parts of the state no bus write touches. -/
structure State.SameCore (s t : State) : Prop where
  regs : t.regs = s.regs
  ime : t.int.ime = s.int.ime
  pipe0 : t.int.pipe0 = s.int.pipe0
  pipe1 : t.int.pipe1 = s.int.pipe1
  keys : t.joy.keys = s.joy.keys
  runState : t.runState = s.runState
  bootOverlay : t.bootOverlay = s.bootOverlay
  fault : t.fault = s.fault
  hostQueue : t.hostQueue = s.hostQueue
  clock : t.clock = s.clock
  cycles : t.cycles = s.cycles
  params : t.params = s.params

theorem State.SameCore.refl (s : State) : s.SameCore s := by constructor <;> rfl

theorem State.SameCore.trans {s t u : State} (h : s.SameCore t) (k : t.SameCore u) : s.SameCore u := by
  constructor
  · rw [k.regs, h.regs]
  · rw [k.ime, h.ime]
  · rw [k.pipe0, h.pipe0]
  · rw [k.pipe1, h.pipe1]
  · rw [k.keys, h.keys]
  · rw [k.runState, h.runState]
  · rw [k.bootOverlay, h.bootOverlay]
  · rw [k.fault, h.fault]
  · rw [k.hostQueue, h.hostQueue]
  · rw [k.clock, h.clock]
  · rw [k.cycles, h.cycles]
  · rw [k.params, h.params]

theorem State.ioWrite_sameCore (s : State) (r : IoReg) (v : Byte) : s.SameCore (s.ioWrite r v) := by
  cases r <;> simp only [State.ioWrite, State.writeLcdc]
  case lcdc =>
    split
    · constructor <;> rfl
    · split <;> constructor <;> rfl
  all_goals constructor <;> rfl

/-- A bus write leaves the CPU, the keys, the run state, the overlay, the queue, the counts and the parameters. -/
theorem State.wrote_sameCore (s : State) (a : Word) (v : Byte) : s.SameCore (s.wrote a v) := by
  rcases s.wrote_cases a v with h | ⟨-, -, h⟩ | ⟨r, -, h⟩ | ⟨-, h⟩ <;> rw [h]
  · exact .refl s
  · constructor <;> rfl
  · exact s.ioWrite_sameCore r v
  · constructor <;> rfl

@[simp] theorem State.wrote_regs (s : State) (a : Word) (v : Byte) : (s.wrote a v).regs = s.regs :=
  (s.wrote_sameCore a v).regs
@[simp] theorem State.wrote_params (s : State) (a : Word) (v : Byte) : (s.wrote a v).params = s.params :=
  (s.wrote_sameCore a v).params
@[simp] theorem State.wrote_cycles (s : State) (a : Word) (v : Byte) : (s.wrote a v).cycles = s.cycles :=
  (s.wrote_sameCore a v).cycles
@[simp] theorem State.answers_wrote (s : State) (a b : Word) (v : Byte) : (s.wrote a v).answers b = s.answers b :=
  State.answers_congr (by simp) b
@[simp] theorem State.wroteWord_regs (s : State) (a v : Word) : (s.wroteWord a v).regs = s.regs := by
  simp [State.wroteWord]
@[simp] theorem State.wroteWord_params (s : State) (a v : Word) : (s.wroteWord a v).params = s.params := by
  simp [State.wroteWord]
theorem State.wroteWord_sameCore (s : State) (a v : Word) : s.SameCore (s.wroteWord a v) :=
  (s.wrote_sameCore _ _).trans (State.wrote_sameCore _ _ _)

/-! ### Storage -/

/-- A bus write keeps the canonical form of storage. -/
theorem State.wrote_memWf {s : State} (h : s.mem.wf) (a : Word) (v : Byte) : (s.wrote a v).mem.wf := by
  rcases s.wrote_cases a v with e | ⟨-, -, e⟩ | ⟨r, -, e⟩ | ⟨-, e⟩ <;> rw [e]
  · exact h
  · exact Memory.wf_set h _ _
  · have : (s.ioWrite r v).mem = s.mem := by
      cases r <;> simp only [State.ioWrite, State.writeLcdc, State.setDivCounter]
      split
      · rfl
      · split <;> rfl
    rw [this]; exact h
  · exact h

@[simp] theorem State.ioWrite_mem (s : State) (r : IoReg) (v : Byte) : (s.ioWrite r v).mem = s.mem := by
  cases r <;> simp only [State.ioWrite, State.writeLcdc, State.setDivCounter]
  split
  · rfl
  · split <;> rfl

/-- A bus write lists no address but storage (R56). -/
theorem State.wrote_cells {s : State} (h : ∀ c ∈ s.mem, isCell c.1 = true) (a : Word) (v : Byte) :
    ∀ c ∈ (s.wrote a v).mem, isCell c.1 = true := by
  rcases s.wrote_cases a v with e | ⟨hc, -, e⟩ | ⟨r, -, e⟩ | ⟨-, e⟩ <;> rw [e]
  · exact h
  · intro c hm
    rcases Memory.mem_set hm with e1 | e1
    · rw [e1]; exact hc
    · exact h c e1
  · simpa using h
  · exact h

/-- A bus write never changes the ROM (R76). -/
theorem State.wrote_rom (s : State) (a : Word) (v : Byte) {n : Nat} (hn : n < 0x8000) :
    (s.wrote a v).mem.get n = s.mem.get n := by
  rcases s.wrote_cases a v with e | ⟨-, hc, e⟩ | ⟨r, -, e⟩ | ⟨-, e⟩ <;> rw [e]
  · exact Memory.get_set_other _ _ (by omega)
  · simp

/-! ### The PPU under a bus write -/

/-- A bus write leaves the PPU in a legal position (R92, R99). -/
theorem State.wrote_legal {s : State} (h : s.ppu.Legal) (a : Word) (v : Byte) : (s.wrote a v).ppu.Legal := by
  rcases s.wrote_cases a v with e | ⟨-, -, e⟩ | ⟨r, -, e⟩ | ⟨-, e⟩ <;> rw [e]
  · exact h
  · exact h
  · have home : ∀ p : Ppu, Ppu.Legal { p with mode := .oamSearch, dot := 0, line := 0, ly := 0x00 } := fun p =>
      ⟨by simp [PpuMode.budget], by simp, by simp, .inr rfl, fun _ => ⟨rfl, rfl, rfl, rfl⟩⟩
    cases r <;> simp only [State.ioWrite, State.writeLcdc]
    case lcdc =>
      split
      · exact home _
      · split
        · exact home _
        · rename_i h1 h2
          refine ⟨h.dot, h.line, h.vBlank, h.ly, fun hv => ?_⟩
          refine h.off ?_
          simp only [State.setLcdc] at hv
          simp only [State.lcdOn, Bool.and_eq_true, Bool.not_eq_true', not_and, Bool.not_eq_true] at h1 h2
          by_contra hc
          exact h2 (by simpa using hc) hv |>.elim
    case ly => exact ⟨h.dot, h.line, h.vBlank, .inr rfl, fun hv => ⟨(h.off hv).1, (h.off hv).2.1, (h.off hv).2.2.1, rfl⟩⟩
    all_goals exact ⟨h.dot, h.line, h.vBlank, h.ly, h.off⟩
  · exact h

/-- A bus write only adds outputs (R411). -/
theorem State.wrote_outputs (s : State) (a : Word) (v : Byte) : ∃ os, (s.wrote a v).outputs = s.outputs ++ os := by
  rcases s.wrote_cases a v with e | ⟨-, -, e⟩ | ⟨r, -, e⟩ | ⟨-, e⟩ <;> rw [e]
  · exact ⟨[], by simp⟩
  · exact ⟨[], by simp⟩
  · cases r <;> simp only [State.ioWrite, State.writeLcdc, State.setDivCounter]
    case lcdc =>
      split
      · exact ⟨[], (List.append_nil _).symm⟩
      · split
        · exact ⟨[.blank], rfl⟩
        · exact ⟨[], (List.append_nil _).symm⟩
    all_goals exact ⟨[], (List.append_nil _).symm⟩
  · exact ⟨[], by simp⟩

end Sys2Proof.Machine
end

