-- ==== Sys2Proof/Laws/Ops.lean ====
section
/-! SUPPORT. What the shared operations of Ops.lean do: words, stack, fetch, dispatch, retirement. -/

namespace Sys2Proof.Machine

/-! ### Going on after a bus operation -/

/-- A chain that ends in a next state had every bus operation succeed. -/
theorem andThen_next_iff {α : Type} {e : Except Fault α} {k : α → Result} {t : State} :
    andThen e k = .next t ↔ ∃ v, e = .ok v ∧ k v = .next t := by
  cases e with
  | ok v => simp [andThen]
  | error f => simp [andThen]

@[simp] theorem andThen_ok {α : Type} (v : α) (k : α → Result) : andThen (.ok v) k = k v := rfl
@[simp] theorem andThen_error {α : Type} (f : Fault) (k : α → Result) : andThen (.error f) k = .fault f := rfl

/-- A load that goes on read a byte the bus gave (R182). -/
theorem andThen_memRead {s : State} {a : Word} {k : Byte → Result} {t : State} :
    andThen (s.memRead a) k = .next t ↔ s.answers a = true ∧ k (s.readByte a) = .next t := by
  rw [State.memRead_eq]
  cases h : s.answers a <;> simp

/-- A store that goes on left the state of the write (R183). -/
theorem andThen_memWrite {s : State} {a : Word} {v : Byte} {k : State → Result} {t : State} :
    andThen (s.memWrite a v) k = .next t ↔ s.answers a = true ∧ k (s.wrote a v) = .next t := by
  rw [State.memWrite_eq]
  cases h : s.answers a <;> simp

/-! ### Words -/

/-- A word read (R73): both bytes answer, or the first that does not faults. -/
theorem State.memRead16_eq (s : State) (a : Word) :
    s.memRead16 a =
      if s.answers a then
        if s.answers (a + 1) then .ok (s.readWord a) else .error (.busUnmapped (a + 1) .read)
      else .error (.busUnmapped a .read) := by
  simp only [State.memRead16, State.memRead_eq, State.readWord]
  cases s.answers a <;> cases s.answers (a + 1) <;> rfl

/-- A word write (R74): both bytes answer, or the first that does not faults. -/
theorem State.memWrite16_eq (s : State) (a v : Word) :
    s.memWrite16 a v =
      if s.answers a then
        if s.answers (a + 1) then .ok (s.wroteWord a v) else .error (.busUnmapped (a + 1) .write)
      else .error (.busUnmapped a .write) := by
  simp only [State.memWrite16, State.memWrite_eq, State.wroteWord]
  cases s.answers a
  · rfl
  · show (if (s.wrote a (lo v)).answers (a + 1) = true then _ else _) = _
    rw [State.answers_wrote]
    cases s.answers (a + 1) <;> rfl

/-! ### The stack -/

theorem word_sub_two_add_one (v : Word) : v - 2 + 1 = v - 1 := by bv_omega

/-- A push (R28): both bytes below SP answer, or it faults. -/
theorem State.push16_eq (s : State) (v : Word) :
    s.push16 v =
      if s.answers (s.regs.sp - 2) then
        if s.answers (s.regs.sp - 1) then .ok ((s.setSP (s.regs.sp - 2)).wroteWord (s.regs.sp - 2) v)
        else .error (.busUnmapped (s.regs.sp - 1) .write)
      else .error (.busUnmapped (s.regs.sp - 2) .write) := by
  simp only [State.push16, State.memWrite16_eq, State.answers_setSP, word_sub_two_add_one]

/-- A pop (R29): both bytes at SP answer, or it faults. -/
theorem State.pop16_eq (s : State) :
    s.pop16 =
      if s.answers s.regs.sp then
        if s.answers (s.regs.sp + 1) then .ok (s.readWord s.regs.sp, s.setSP (s.regs.sp + 2))
        else .error (.busUnmapped (s.regs.sp + 1) .read)
      else .error (.busUnmapped s.regs.sp .read) := by
  simp only [State.pop16, State.memRead16_eq]
  cases s.answers s.regs.sp
  · rfl
  · cases s.answers (s.regs.sp + 1) <;> rfl

theorem State.push16_ok {s : State} (h2 : s.answers (s.regs.sp - 2) = true) (h1 : s.answers (s.regs.sp - 1) = true)
    (v : Word) : s.push16 v = .ok ((s.setSP (s.regs.sp - 2)).wroteWord (s.regs.sp - 2) v) := by
  rw [State.push16_eq, if_pos h2, if_pos h1]

theorem State.pop16_ok {s : State} (h0 : s.answers s.regs.sp = true) (h1 : s.answers (s.regs.sp + 1) = true) :
    s.pop16 = .ok (s.readWord s.regs.sp, s.setSP (s.regs.sp + 2)) := by
  rw [State.pop16_eq, if_pos h0, if_pos h1]

theorem State.push16_inv {s t : State} {v : Word} (h : s.push16 v = .ok t) :
    s.answers (s.regs.sp - 2) = true ∧ s.answers (s.regs.sp - 1) = true ∧
      t = (s.setSP (s.regs.sp - 2)).wroteWord (s.regs.sp - 2) v := by
  rw [State.push16_eq] at h
  revert h
  cases s.answers (s.regs.sp - 2) <;> cases s.answers (s.regs.sp - 1) <;> simp
  exact fun e => e.symm

theorem State.pop16_inv {s t : State} {v : Word} (h : s.pop16 = .ok (v, t)) :
    s.answers s.regs.sp = true ∧ s.answers (s.regs.sp + 1) = true ∧ v = s.readWord s.regs.sp ∧
      t = s.setSP (s.regs.sp + 2) := by
  rw [State.pop16_eq] at h
  revert h
  cases s.answers s.regs.sp <;> cases s.answers (s.regs.sp + 1) <;> simp
  exact fun e1 e2 => ⟨e1.symm, e2.symm⟩

/-! ### The fetch -/

/-- A fetched byte (R17). -/
theorem State.fetch8_eq (s : State) :
    s.fetch8 =
      if s.answers s.regs.pc then .ok (s.readByte s.regs.pc, s.setPC (s.regs.pc + 1))
      else .error (.busUnmapped s.regs.pc .read) := by
  simp only [State.fetch8, State.memRead_eq]
  cases s.answers s.regs.pc <;> rfl

theorem State.fetch8_inv {s t : State} {b : Byte} (h : s.fetch8 = .ok (b, t)) :
    s.memRead s.regs.pc = .ok b ∧ t = s.setPC (s.regs.pc + 1) := by
  rw [State.fetch8_eq] at h
  rw [State.memRead_eq]
  revert h
  cases s.answers s.regs.pc <;> simp
  exact fun e1 e2 => ⟨e1, e2.symm⟩

@[simp] theorem State.memRead_setPC (s : State) (v a : Word) : (s.setPC v).memRead a = s.memRead a := rfl
@[simp] theorem State.readByte_setPC (s : State) (v a : Word) : (s.setPC v).readByte a = s.readByte a := rfl
@[simp] theorem State.memRead_setSP (s : State) (v a : Word) : (s.setSP v).memRead a = s.memRead a := rfl
@[simp] theorem State.setPC_setPC (s : State) (v w : Word) : (s.setPC v).setPC w = s.setPC w := rfl

/-- The fetch changes pc and nothing else (R121). -/
theorem State.fetchInstr_inv {s t : State} {i : Instr} (h : s.fetchInstr = .ok (i, t)) :
    ∃ v, t = s.setPC v := by
  unfold State.fetchInstr at h
  simp only [State.fetch8_eq] at h
  cases h0 : s.answers s.regs.pc
  · rw [h0] at h; cases h
  · rw [h0] at h
    simp only [if_true, bind, Except.bind, State.answers_setPC, State.setPC_regs_pc, State.setPC_setPC] at h
    cases hf : formatOf (s.readByte s.regs.pc) <;> rw [hf] at h <;> simp only at h
    case op => cases h; exact ⟨_, rfl⟩
    all_goals
      cases h1 : s.answers (s.regs.pc + 1)
      · rw [h1] at h; cases h
      rw [h1] at h
      simp only [if_true] at h
    case true.opNN.true =>
      simp only [State.answers_setPC, State.setPC_regs_pc, State.setPC_setPC] at h
      cases h2 : s.answers (s.regs.pc + 1 + 1)
      · rw [h2] at h; cases h
      · rw [h2] at h
        cases h
        exact ⟨_, rfl⟩
    all_goals
      cases h
      exact ⟨_, rfl⟩

/-- A fetch of a byte the bus gives (R17). -/
theorem State.fetch8_ok {s : State} {b : Byte} (h : s.memRead s.regs.pc = .ok b) :
    s.fetch8 = .ok (b, s.setPC (s.regs.pc + 1)) := by
  simp only [State.fetch8, h]; rfl

theorem except_bind_ok {ε α β : Type} (v : α) (f : α → Except ε β) : (Except.ok v >>= f) = f v := rfl

/-- Bytes at pc that decode whole are fetched as their instruction, with pc behind them (R121). -/
theorem State.fetchInstr_ok {u : State} {i : Instr} {bs : List Byte} (hd : decode bs = .ok i [])
    (hw : i.wellFormed = true) (hb : u.bytesAt u.regs.pc bs) :
    u.fetchInstr = .ok (i, u.setPC (u.regs.pc + BitVec.ofNat 16 bs.length)) := by
  rcases bs with _ | ⟨b0, r⟩
  · cases hd
  unfold decode at hd
  unfold State.fetchInstr
  rw [State.fetch8_ok hb.1, except_bind_ok]
  simp only at hd ⊢
  generalize decodeOp b0 = D at *
  have one : ∀ {b1 : Byte} {r' : List Byte}, u.bytesAt (u.regs.pc + 1) (b1 :: r') →
      (u.setPC (u.regs.pc + 1)).fetch8 = .ok (b1, u.setPC (u.regs.pc + 2)) := by
    intro b1 r' h
    rw [State.fetch8_ok h.1]
    exact congrArg (fun x => Except.ok (b1, u.setPC x)) (by show u.regs.pc + 1 + 1 = _; bv_omega)
  cases hfo : formatOf b0 <;> rw [hfo] at hd <;> simp only at hd ⊢
  · injection hd with h1 h2; subst h1 h2; rfl
  · rcases r with _ | ⟨b1, r⟩
    · cases hd
    injection hd with h1 h2; subst h1 h2
    rw [one hb.2]; rfl
  · rcases r with _ | ⟨b1, r⟩
    · cases hd
    injection hd with h1 h2; subst h1 h2
    rw [one hb.2]; rfl
  · rcases r with _ | ⟨b1, _ | ⟨b2, r⟩⟩
    · cases hd
    · cases hd
    injection hd with h1 h2; subst h1 h2
    have h2 := hb.2.2.1
    rw [one hb.2, except_bind_ok]
    have e : u.regs.pc + 1 + 1 = u.regs.pc + 2 := by bv_omega
    simp only
    rw [State.fetch8_ok (b := b2) (by rw [e] at h2; exact h2), except_bind_ok]
    exact congrArg (fun x => Except.ok (_, u.setPC x)) (by show u.regs.pc + 2 + 1 = u.regs.pc + 3; bv_omega)
  · rcases r with _ | ⟨b1, r⟩
    · injection hd with h1 h2; subst h1; cases hw
    injection hd with h1 h2; subst h1 h2
    rw [one hb.2]; rfl

/-! ### Dispatch and return -/

/-- Taking an interrupt (R373), where both stack bytes answer. -/
theorem State.dispatch_ok {s : State} (h2 : s.answers (s.regs.sp - 2) = true)
    (h1 : s.answers (s.regs.sp - 1) = true) (i : Nat) :
    s.dispatch i =
      .ok ((((((s.resetInterrupt i).setIme false).setSP (s.regs.sp - 2)).wroteWord (s.regs.sp - 2)
        s.regs.pc).setPC (vector i)).charge 20) := by
  have e : ((s.resetInterrupt i).setIme false).push16 s.regs.pc =
      .ok ((((s.resetInterrupt i).setIme false).setSP (s.regs.sp - 2)).wroteWord (s.regs.sp - 2) s.regs.pc) :=
    State.push16_ok (s := (s.resetInterrupt i).setIme false) h2 h1 s.regs.pc
  simp only [State.dispatch, e]
  rfl

theorem State.dispatch_inv {s t : State} {i : Nat} (h : s.dispatch i = .ok t) :
    s.answers (s.regs.sp - 2) = true ∧ s.answers (s.regs.sp - 1) = true ∧
      t = (((((s.resetInterrupt i).setIme false).setSP (s.regs.sp - 2)).wroteWord (s.regs.sp - 2)
        s.regs.pc).setPC (vector i)).charge 20 := by
  simp only [State.dispatch] at h
  cases e : ((s.resetInterrupt i).setIme false).push16 s.regs.pc with
  | error f => rw [e] at h; cases h
  | ok u =>
    rw [e] at h
    obtain ⟨h2, h1, rfl⟩ := State.push16_inv e
    cases h
    exact ⟨h2, h1, rfl⟩

/-- The return of RETI (R319), where both stack bytes answer. -/
theorem State.returnFromInterrupt_ok {s : State} (h0 : s.answers s.regs.sp = true)
    (h1 : s.answers (s.regs.sp + 1) = true) :
    s.returnFromInterrupt = .ok (((s.setSP (s.regs.sp + 2)).setPC (s.readWord s.regs.sp)).setIme true) := by
  simp only [State.returnFromInterrupt, State.pop16_ok h0 h1]
  rfl

theorem State.returnFromInterrupt_inv {s t : State} (h : s.returnFromInterrupt = .ok t) :
    s.answers s.regs.sp = true ∧ s.answers (s.regs.sp + 1) = true ∧
      t = ((s.setSP (s.regs.sp + 2)).setPC (s.readWord s.regs.sp)).setIme true := by
  simp only [State.returnFromInterrupt] at h
  cases e : s.pop16 with
  | error f => rw [e] at h; cases h
  | ok p =>
    obtain ⟨v, u⟩ := p
    rw [e] at h
    obtain ⟨h0, h1, rfl, rfl⟩ := State.pop16_inv e
    cases h
    exact ⟨h0, h1, rfl⟩

/-- The check (R372): the same state, or one dispatch while running with IME set. -/
theorem State.takeInterrupt_inv {s t : State} (h : s.takeInterrupt = .ok t) :
    t = s ∨ ∃ i, s.runState = .running ∧ s.int.ime = true ∧ leastLine s.pending = some i ∧ s.dispatch i = .ok t := by
  unfold State.takeInterrupt at h
  split at h
  · rename_i hr
    split at h
    · rename_i i hi
      exact .inr ⟨i, hr.1, hr.2, hi, h⟩
    · cases h; exact .inl rfl
  · cases h; exact .inl rfl

end Sys2Proof.Machine
end

