-- ==== Sys2Proof/Laws/Exec.lean ====
section
/-! SUPPORT. What any instruction can do, said once: it stores bytes through the bus at the addresses of `storeSpan`, and
beside that it writes only registers, IME, slot 1 of the pipe, the run state and the cycle count. -/

namespace Sys2Proof.Machine

/-- The state with the CPU's own part written. -/
def State.withCpu (s : State) (r : Regs) (ime : Bool) (p : ImeReq) (run : RunState) (n : Nat) : State :=
  { s with regs := r, int := { s.int with ime := ime, pipe1 := p }, runState := run, cycles := n }

/-- Bus writes one after the other. -/
def State.writes (s : State) : List (Word × Byte) → State
  | [] => s
  | (a, v) :: ws => (s.wrote a v).writes ws

/-- The CPU's own part plays no role in a bus write (R72). -/
theorem State.wrote_withCpu (s : State) (r : Regs) (ime : Bool) (p : ImeReq) (run : RunState) (n : Nat) (a : Word)
    (v : Byte) : (s.withCpu r ime p run n).wrote a v = (s.wrote a v).withCpu r ime p run n := by
  have hio : ∀ q : IoReg, (s.withCpu r ime p run n).ioWrite q v = (s.ioWrite q v).withCpu r ime p run n := by
    intro q
    cases q <;> simp only [State.ioWrite, State.writeLcdc]
    case lcdc =>
      have : (s.withCpu r ime p run n).lcdOn = s.lcdOn := rfl
      rw [this]
      split
      · rfl
      · split <;> rfl
    all_goals rfl
  have hr : (s.withCpu r ime p run n).region a = s.region a := rfl
  unfold State.wrote State.memWrite State.unmappedWrite
  rw [hr]
  cases s.region a <;> simp only [hio]
  case extRam =>
    have h1 : (s.withCpu r ime p run n).params = s.params := rfl
    rw [h1]
    cases s.params.extRam <;> cases s.params.busStrict <;> rfl
  case io =>
    have h1 : (s.withCpu r ime p run n).params = s.params := rfl
    rw [h1]
    cases ioReg? a <;> cases s.params.busStrict <;> rfl
  all_goals rfl

theorem State.writes_withCpu (ws : List (Word × Byte)) (s : State) (r : Regs) (ime : Bool) (p : ImeReq)
    (run : RunState) (n : Nat) : (s.withCpu r ime p run n).writes ws = (s.writes ws).withCpu r ime p run n := by
  induction ws generalizing s with
  | nil => rfl
  | cons x ws ih => rw [State.writes, State.wrote_withCpu, ih]; rfl

/-- The cost of an instruction: a multiple of 4 from 4 to 24 (R450). -/
abbrev GoodCost (k : Nat) : Prop := k % 4 = 0 ∧ 4 ≤ k ∧ k ≤ 24

/-- F is as before, or has a zero low nibble (R21). -/
def FKept (s : State) (r : Regs) : Prop := r.f = s.regs.f ∨ r.f &&& 0x0F = 0

/-- `t` is `s` after stores at the addresses `span`, with the CPU's own part written and a cost charged. -/
def Effect (s t : State) (span : List Word) : Prop :=
  ∃ ws r ime p run k, ws.map Prod.fst = span ∧ FKept s r ∧ GoodCost k ∧
    t = (s.writes ws).withCpu r ime p run (s.cycles + k)

theorem Effect.cpu {s t : State} (r : Regs) (ime : Bool) (p : ImeReq) (run : RunState) {k : Nat}
    (h : s.withCpu r ime p run (s.cycles + k) = t) (hf : FKept s r) (hk : GoodCost k) : Effect s t [] :=
  ⟨[], r, ime, p, run, k, rfl, hf, hk, h.symm⟩

/-- One byte stored, then registers and a cost. -/
theorem Effect.store {s : State} (a : Word) (v : Byte) (r : Regs) {k : Nat} (hf : FKept s r) (hk : GoodCost k) :
    Effect s { s.wrote a v with regs := r, cycles := s.cycles + k } [a] :=
  ⟨[(a, v)], r, (s.wrote a v).int.ime, (s.wrote a v).int.pipe1, (s.wrote a v).runState, k, rfl, hf, hk, rfl⟩

/-- A little-endian word stored from a state whose registers were written before, then registers and a cost. -/
theorem Effect.storeWord {s : State} (a v : Word) (r' r : Regs) {k : Nat} (hf : FKept s r) (hk : GoodCost k) :
    Effect s { ({ s with regs := r' } : State).wroteWord a v with regs := r, cycles := s.cycles + k } [a, a + 1] := by
  let u := ({ s with regs := r' } : State).wroteWord a v
  refine ⟨[(a, lo v), (a + 1, hi v)], r, u.int.ime, u.int.pipe1, u.runState, k, rfl, hf, hk, ?_⟩
  show ({ u with regs := r, cycles := s.cycles + k } : State) = _
  have e : ({ s with regs := r' } : State) = s.withCpu r' s.int.ime s.int.pipe1 s.runState s.cycles := rfl
  have eu : u = ((s.wrote a (lo v)).wrote (a + 1) (hi v)).withCpu r' s.int.ime s.int.pipe1 s.runState s.cycles := by
    show State.wroteWord _ a v = _
    rw [e, State.wroteWord, State.wrote_withCpu, State.wrote_withCpu]
  rw [eu]
  rfl

/-- A write of the CPU's own part before an effect is part of it. -/
theorem Effect.after_cpu {s t : State} {span : List Word} (r : Regs) (ime : Bool) (p : ImeReq) (run : RunState)
    (hf : FKept s r) (h : Effect (s.withCpu r ime p run s.cycles) t span) : Effect s t span := by
  obtain ⟨ws, r', i', p', run', k, hs, hf', hk, rfl⟩ := h
  refine ⟨ws, r', i', p', run', k, hs, ?_, hk, by rw [State.writes_withCpu]; rfl⟩
  rcases hf' with e | e
  · rcases hf with e1 | e1
    · exact .inl (e.trans e1)
    · exact .inr (by rw [e]; exact e1)
  · exact .inr e

/-- A meaning that only writes the CPU's own part. -/
def CpuOnly (f : State → Result) : Prop := ∀ s t, f s = .next t → Effect s t []

theorem FKept.pack (s : State) (r : Regs) (x : Flags) : FKept s { r with f := packFlags x } := .inr (packFlags_low x)

theorem FKept.mask (s : State) (r : Regs) (v : Byte) : FKept s { r with f := v &&& 0xF0 } := .inr (mask_low v)

theorem FKept.same (s : State) {r : Regs} (h : r.f = s.regs.f) : FKept s r := .inl h

/-! ### The shapes -/

theorem ldRegReg_effect (dst src : Reg8) : CpuOnly (ldRegReg dst src) := by
  intro s t h; cases h; cases dst <;> exact Effect.cpu _ _ _ _ rfl (.same s rfl) (by decide)

theorem ldRegImm_effect (dst : Reg8) (n : Byte) : CpuOnly (ldRegImm dst n) := by
  intro s t h; cases h; cases dst <;> exact Effect.cpu _ _ _ _ rfl (.same s rfl) (by decide)

theorem loadReg_effect {s t : State} {dst : Reg8} {a : Word} {n : Nat} (h : loadReg dst a n s = .next t)
    (hn : GoodCost n := by decide) : Effect s t [] := by
  obtain ⟨-, h⟩ := andThen_memRead.1 h
  cases h; cases dst <;> exact Effect.cpu _ _ _ _ rfl (.same s rfl) hn

theorem storeByte_effect {s t : State} {a : Word} {v : Byte} {n : Nat} (h : storeByte a v n s = .next t)
    (hn : GoodCost n := by decide) : Effect s t [a] := by
  obtain ⟨-, h⟩ := andThen_memWrite.1 h
  cases h
  have e : (s.wrote a v).charge n = { s.wrote a v with regs := s.regs, cycles := s.cycles + n } := by
    rw [← s.wrote_regs a v, ← s.wrote_cycles a v]; rfl
  exact e ▸ Effect.store a v s.regs (.same s rfl) hn

theorem loadStepHL_effect (d : Word) : CpuOnly (loadStepHL d) := by
  intro s t h
  obtain ⟨-, h⟩ := andThen_memRead.1 h
  cases h; exact Effect.cpu _ _ _ _ rfl (.same s rfl) (by decide)

theorem storeStepHL_effect {d : Word} {s t : State} (h : storeStepHL d s = .next t) : Effect s t [s.hl] := by
  obtain ⟨-, h⟩ := andThen_memWrite.1 h
  cases h
  have e : ((s.wrote s.hl s.regs.a).setHL (s.hl + d)).charge 8 =
      { s.wrote s.hl s.regs.a with regs := (s.setHL (s.hl + d)).regs, cycles := s.cycles + 8 } := by
    simp [State.setHL, State.charge]
  exact e ▸ Effect.store s.hl s.regs.a _ (.same s rfl) (by decide)

theorem ldPairImm_effect (p : Reg16) (nn : Word) : CpuOnly (ldPairImm p nn) := by
  intro s t h; cases h; cases p <;> exact Effect.cpu _ _ _ _ rfl (.same s rfl) (by decide)

theorem storeSP_effect {nn : Word} {s t : State} (h : storeSP nn s = .next t) : Effect s t [nn, nn + 1] := by
  obtain ⟨u, hu, h⟩ := andThen_next_iff.1 h
  rw [State.memWrite16_eq] at hu
  split at hu
  · split at hu
    · cases hu; cases h
      have e : (s.wroteWord nn s.regs.sp).charge 20 =
          { s.wroteWord nn s.regs.sp with regs := s.regs, cycles := s.cycles + 20 } := by
        have hc := s.wroteWord_sameCore nn s.regs.sp
        unfold State.charge
        rw [hc.cycles]
        generalize hu : s.wroteWord nn s.regs.sp = u at hc
        cases u
        cases hc.regs
        rfl
      exact e ▸ Effect.storeWord nn s.regs.sp s.regs s.regs (.same s rfl) (by decide)
    · cases hu
  · cases hu

theorem ldSPHL_effect : CpuOnly ldSPHL := by
  intro s t h; cases h; exact Effect.cpu _ _ _ _ rfl (.same s rfl) (by decide)

theorem ldHLSPe_effect (e : Byte) : CpuOnly (ldHLSPe e) := by
  intro s t h; cases h; exact Effect.cpu _ _ _ _ rfl (.pack s _ _) (by decide)

/-- A push and then a new pc and a cost. -/
theorem push_effect {s u : State} {v : Word} (hu : s.push16 v = .ok u) (pc : Word) {k : Nat} (hk : GoodCost k) :
    Effect s ((u.setPC pc).charge k) [s.regs.sp - 2, s.regs.sp - 1] := by
  obtain ⟨-, -, rfl⟩ := State.push16_inv hu
  rw [← word_sub_two_add_one]
  have hc := (s.setSP (s.regs.sp - 2)).wroteWord_sameCore (s.regs.sp - 2) v
  have e : (((s.setSP (s.regs.sp - 2)).wroteWord (s.regs.sp - 2) v).setPC pc).charge k =
      { (s.setSP (s.regs.sp - 2)).wroteWord (s.regs.sp - 2) v with
        regs := { s.regs with sp := s.regs.sp - 2, pc := pc }, cycles := s.cycles + k } := by
    unfold State.setPC State.charge
    rw [hc.regs, hc.cycles]
    rfl
  exact e ▸ Effect.storeWord (s.regs.sp - 2) v { s.regs with sp := s.regs.sp - 2 } _ (.same s rfl) hk

theorem setPC_self (s : State) : s.setPC s.regs.pc = s := rfl

theorem pushPair_effect {p : StkReg} {s t : State} (h : pushPair p s = .next t) :
    Effect s t [s.regs.sp - 2, s.regs.sp - 1] := by
  obtain ⟨u, hu, h⟩ := andThen_next_iff.1 h
  cases h; exact setPC_self u ▸ push_effect hu u.regs.pc (by decide)

theorem popPair_effect (p : StkReg) : CpuOnly (popPair p) := by
  intro s t h
  obtain ⟨⟨v, u⟩, hu, h⟩ := andThen_next_iff.1 h
  obtain ⟨-, -, -, rfl⟩ := State.pop16_inv hu
  cases h
  cases p
  case af => exact Effect.cpu _ _ _ _ rfl (.mask s _ _) (by decide)
  all_goals exact Effect.cpu _ _ _ _ rfl (.same s rfl) (by decide)

theorem aluReg_effect (op : AluOp) (r : Reg8) : CpuOnly (aluReg op r) := by
  intro s t h; cases h; exact Effect.cpu _ _ _ _ rfl (.pack s _ _) (by decide)

theorem aluInd_effect (op : AluOp) : CpuOnly (aluInd op) := by
  intro s t h
  obtain ⟨-, h⟩ := andThen_memRead.1 h
  cases h; exact Effect.cpu _ _ _ _ rfl (.pack s _ _) (by decide)

theorem aluImm_effect (op : AluOp) (n : Byte) : CpuOnly (aluImm op n) := by
  intro s t h; cases h; exact Effect.cpu _ _ _ _ rfl (.pack s _ _) (by decide)

theorem modifyReg_effect {f : Byte → Byte × Flags} {r : Reg8} {n : Nat} {s t : State}
    (h : modifyReg f r n s = .next t) (hn : GoodCost n := by decide) : Effect s t [] := by
  cases h; cases r <;> exact Effect.cpu _ _ _ _ rfl (.pack s _ _) hn

theorem modifyInd_effect {f : Byte → Byte × Flags} {n : Nat} {s t : State} (h : modifyInd f n s = .next t)
    (hn : GoodCost n := by decide) : Effect s t [s.hl] := by
  obtain ⟨-, h⟩ := andThen_memRead.1 h
  obtain ⟨-, h⟩ := andThen_memWrite.1 h
  cases h
  have e : ((s.wrote s.hl (f (s.readByte s.hl)).1).setFlags (f (s.readByte s.hl)).2).charge n =
      { s.wrote s.hl (f (s.readByte s.hl)).1 with
        regs := { s.regs with f := packFlags (f (s.readByte s.hl)).2 }, cycles := s.cycles + n } := by
    simp [State.setFlags, State.charge]
  exact e ▸ Effect.store s.hl _ _ (.pack s _ _) hn

theorem incReg_effect (r : Reg8) : CpuOnly (incReg r) := fun s _ h =>
  modifyReg_effect (f := fun v => inc8 v s.flags) h

theorem decReg_effect (r : Reg8) : CpuOnly (decReg r) := fun s _ h =>
  modifyReg_effect (f := fun v => dec8 v s.flags) h

theorem addHL_effect (p : Reg16) : CpuOnly (addHL p) := by
  intro s t h; cases h; exact Effect.cpu _ _ _ _ rfl (.pack s _ _) (by decide)

theorem incPair_effect (p : Reg16) : CpuOnly (incPair p) := by
  intro s t h; cases h; cases p <;> exact Effect.cpu _ _ _ _ rfl (.same s rfl) (by decide)

theorem decPair_effect (p : Reg16) : CpuOnly (decPair p) := by
  intro s t h; cases h; cases p <;> exact Effect.cpu _ _ _ _ rfl (.same s rfl) (by decide)

theorem addSPe_effect (e : Byte) : CpuOnly (addSPe e) := by
  intro s t h; cases h; exact Effect.cpu _ _ _ _ rfl (.pack s _ _) (by decide)

theorem rotAcc_effect (op : RotOp) : CpuOnly (rotAcc op) := by
  intro s t h; cases h; exact Effect.cpu _ _ _ _ rfl (.pack s _ _) (by decide)

/-- The address an operand is stored to: none for a register, HL for the byte at HL (R124). -/
def opndSpan (o : Opnd8) (s : State) : List Word :=
  match o with
  | .reg _ => []
  | .mHL => [s.hl]

theorem rotOpnd_effect (op : RotOp) (o : Opnd8) {s t : State} (h : rotOpnd op o s = .next t) :
    Effect s t (opndSpan o s) := by
  cases o with
  | reg r => exact modifyReg_effect (f := fun v => rotApply op v s.flags.c) h
  | mHL => exact modifyInd_effect (f := fun v => rotApply op v s.flags.c) h

theorem bitOpnd_effect (n : Nat) (o : Opnd8) : CpuOnly (bitOpnd n o) := by
  intro s t h
  cases o with
  | reg r => cases h; exact Effect.cpu _ _ _ _ rfl (.pack s _ _) (by decide)
  | mHL =>
    obtain ⟨-, h⟩ := andThen_memRead.1 h
    cases h; exact Effect.cpu _ _ _ _ rfl (.pack s _ _) (by decide)

theorem replaceOpnd_effect {f : Byte → Byte} {o : Opnd8} {s t : State} (h : replaceOpnd f o s = .next t) :
    Effect s t (opndSpan o s) := by
  cases o with
  | reg r => cases h; cases r <;> exact Effect.cpu _ _ _ _ rfl (.same s rfl) (by decide)
  | mHL =>
    obtain ⟨-, h⟩ := andThen_memRead.1 h
    exact storeByte_effect (n := 16) h

theorem resOpnd_effect (n : Nat) (o : Opnd8) {s t : State} (h : resOpnd n o s = .next t) :
    Effect s t (opndSpan o s) := replaceOpnd_effect h

theorem setOpnd_effect (n : Nat) (o : Opnd8) {s t : State} (h : setOpnd n o s = .next t) :
    Effect s t (opndSpan o s) := replaceOpnd_effect h

theorem jumpTo_effect (a : Word) (n : Nat) (hn : GoodCost n := by decide) : CpuOnly (jumpTo a n) := by
  intro s t h; cases h; exact Effect.cpu _ _ _ _ rfl (.same s rfl) hn

theorem callTo_effect {a : Word} {n : Nat} {s t : State} (h : callTo a n s = .next t) (hn : GoodCost n := by decide) :
    Effect s t [s.regs.sp - 2, s.regs.sp - 1] := by
  obtain ⟨u, hu, h⟩ := andThen_next_iff.1 h
  cases h; exact push_effect hu a hn

theorem returnWith_effect (n : Nat) (hn : GoodCost n := by decide) : CpuOnly (returnWith n) := by
  intro s t h
  obtain ⟨⟨v, u⟩, hu, h⟩ := andThen_next_iff.1 h
  obtain ⟨-, -, -, rfl⟩ := State.pop16_inv hu
  cases h; exact Effect.cpu _ _ _ _ rfl (.same s rfl) hn

theorem charge_effect (s : State) {n : Nat} (hn : GoodCost n) : Effect s (s.charge n) [] :=
  Effect.cpu _ _ _ _ rfl (.same s rfl) hn

theorem conditional_effect {cc : Cond} {f : State → Result} {n : Nat} {s t : State} {span : List Word}
    (hf : f s = .next t → Effect s t span) (h : conditional cc f n s = .next t) (hn : GoodCost n := by decide) :
    Effect s t (if s.holds cc then span else []) := by
  unfold conditional at h
  split at h
  · rename_i hc; rw [if_pos hc]; exact hf h
  · rename_i hc; rw [if_neg hc]; cases h; exact charge_effect s hn

/-- A conditional whose taken meaning only writes the CPU's own part. -/
theorem conditional_cpuOnly {cc : Cond} {f : State → Result} {n : Nat} {s t : State}
    (hf : CpuOnly f) (h : conditional cc f n s = .next t) (hn : GoodCost n := by decide) : Effect s t [] := by
  unfold conditional at h
  split at h
  · exact hf s t h
  · cases h; exact charge_effect s hn

theorem reti_effect : CpuOnly execReti := by
  intro s t h
  obtain ⟨u, hu, h⟩ := andThen_next_iff.1 h
  obtain ⟨-, -, rfl⟩ := State.returnFromInterrupt_inv hu
  cases h; exact Effect.cpu _ _ _ _ rfl (.same s rfl) (by decide)

/-! ### The prefixed instructions by their fields -/

theorem exec_rotInstr (op : RotOp) (o : Opnd8) (s : State) : exec (rotInstr op o) s = rotOpnd op o s := by
  cases op <;> cases o <;> first | rfl | (rename_i r; cases r <;> rfl)

theorem exec_bitInstr (n : Oct) (o : Opnd8) (s : State) : exec (bitInstr n o) s = bitOpnd n.toNat o s := by
  cases n <;> cases o <;> first | rfl | (rename_i r; cases r <;> rfl)

theorem exec_resInstr (n : Oct) (o : Opnd8) (s : State) : exec (resInstr n o) s = resOpnd n.toNat o s := by
  cases n <;> cases o <;> first | rfl | (rename_i r; cases r <;> rfl)

theorem exec_setInstr (n : Oct) (o : Opnd8) (s : State) : exec (setInstr n o) s = setOpnd n.toNat o s := by
  cases n <;> cases o <;> first | rfl | (rename_i r; cases r <;> rfl)

/-- The instruction a second opcode byte selects is what the prefix runs (R133, R336). -/
theorem exec_decodeCb (op2 : Byte) (s : State) : exec (decodeCb op2) s = runCb op2 s := by
  unfold decodeCb runCb
  generalize fieldX op2 = x
  rcases x with _ | _ | _ | x
  · exact exec_rotInstr _ _ s
  · exact exec_bitInstr _ _ s
  · exact exec_resInstr _ _ s
  · exact exec_setInstr _ _ s

end Sys2Proof.Machine
end

