-- ==== Sys2Proof/Laws/Units.lean ====
section
/-! SUPPORT. The timer, the PPU and the joypad: what each leaves alone, and that the PPU stays legal. -/

namespace Sys2Proof.Machine

/-! ### Requests -/

theorem State.statRequest_eq (s : State) (j : Nat) :
    s.statRequest j = { s with int := { s.int with
      if_ := if s.ppu.statSel.getLsbD j then s.int.if_ ||| 0b00010 else s.int.if_ } } := by
  unfold State.statRequest
  cases s.ppu.statSel.getLsbD j <;> rfl

@[simp] theorem State.statRequest_ppu (s : State) (j : Nat) : (s.statRequest j).ppu = s.ppu := by
  rw [State.statRequest_eq]
@[simp] theorem State.statRequest_outputs (s : State) (j : Nat) : (s.statRequest j).outputs = s.outputs := by
  rw [State.statRequest_eq]

/-! ### Timer -/

/-- One cycle of the timer, in its three cases (R386). -/
theorem State.timerTick_eq (s : State) :
    s.timerTick =
      if timerEdge s.timer.tac s.timer.div (s.timer.div + 1) then
        if s.timer.tima = 0xFF then
          { s with
            timer := { s.timer with div := s.timer.div + 1, tima := s.timer.tma },
            int := { s.int with if_ := s.int.if_ ||| 0b00100 } }
        else { s with timer := { s.timer with div := s.timer.div + 1, tima := s.timer.tima + 1 } }
      else { s with timer := { s.timer with div := s.timer.div + 1 } } := by
  unfold State.timerTick State.timaCount
  split
  · simp only [State.setDivCounter_timer_tima]
    split <;> rfl
  · rfl

/-- The state with the counter, TIMA and IF written: all the timer can change (R386). -/
def State.withTimer (s : State) (d : BitVec 16) (x : Byte) (v : BitVec 5) : State :=
  { s with timer := { s.timer with div := d, tima := x }, int := { s.int with if_ := v } }

/-- A cycle changes the counter, TIMA and IF, nothing else (R386). -/
theorem State.timerTick_only (s : State) : ∃ d x v, s.timerTick = s.withTimer d x v := by
  rw [State.timerTick_eq]
  split
  · split <;> exact ⟨_, _, _, rfl⟩
  · exact ⟨_, _, _, rfl⟩

theorem State.timerAdvance_only (n : Nat) (s : State) : ∃ d x v, s.timerAdvance n = s.withTimer d x v := by
  induction n generalizing s with
  | zero => exact ⟨s.timer.div, s.timer.tima, s.int.if_, rfl⟩
  | succ n ih =>
    obtain ⟨d, x, v, e⟩ := s.timerTick_only
    obtain ⟨d', x', v', e'⟩ := ih s.timerTick
    exact ⟨d', x', v', by rw [State.timerAdvance, e', e]; rfl⟩

theorem State.timerAdvance_div (n : Nat) (s : State) :
    (s.timerAdvance n).timer.div = s.timer.div + BitVec.ofNat 16 n := by
  induction n generalizing s with
  | zero => simp [State.timerAdvance]
  | succ n ih =>
    have h : s.timerTick.timer.div = s.timer.div + 1 := by
      rw [State.timerTick_eq]
      split
      · split <;> rfl
      · rfl
    rw [State.timerAdvance, ih, h]
    apply BitVec.eq_of_toNat_eq
    simp [BitVec.toNat_add]
    omega

/-! ### PPU -/

/-- The state with the PPU's position, LY, IF and the outputs written: all `PpuAdvance` can change (R402, R411). -/
def State.withPpu (s : State) (m : PpuMode) (dot line : Nat) (ly : Byte) (v : BitVec 5) (os : List Output) : State :=
  { s with
    ppu := { s.ppu with mode := m, dot := dot, line := line, ly := ly },
    int := { s.int with if_ := v }, outputs := s.outputs ++ os }

/-- `t` differs from `s` as `PpuAdvance` can make it (R402). -/
def State.PpuOnly (s t : State) : Prop := ∃ m dot line ly v os, t = s.withPpu m dot line ly v os

theorem State.PpuOnly.refl (s : State) : s.PpuOnly s :=
  ⟨s.ppu.mode, s.ppu.dot, s.ppu.line, s.ppu.ly, s.int.if_, [], by simp [State.withPpu]⟩

theorem State.PpuOnly.trans {s t u : State} (h : s.PpuOnly t) (k : t.PpuOnly u) : s.PpuOnly u := by
  obtain ⟨m, d, l, y, v, os, rfl⟩ := h
  obtain ⟨m', d', l', y', v', os', rfl⟩ := k
  exact ⟨m', d', l', y', v', os ++ os', by simp [State.withPpu]⟩

theorem State.setDot_only (s : State) (n : Nat) : s.PpuOnly (s.setDot n) :=
  ⟨s.ppu.mode, n, s.ppu.line, s.ppu.ly, s.int.if_, [], by simp [State.withPpu, State.setDot]⟩

theorem State.setMode_only (s : State) (m : PpuMode) : s.PpuOnly (s.setMode m) :=
  ⟨m, s.ppu.dot, s.ppu.line, s.ppu.ly, s.int.if_, [], by simp [State.withPpu, State.setMode]⟩

theorem State.publishLine_only (s : State) (n : Nat) : s.PpuOnly (s.publishLine n) :=
  ⟨s.ppu.mode, s.ppu.dot, n, _, s.int.if_, [], by simp [State.withPpu, State.publishLine]; rfl⟩

theorem State.setInterrupt_only (s : State) (i : Nat) : s.PpuOnly (s.setInterrupt i) :=
  ⟨s.ppu.mode, s.ppu.dot, s.ppu.line, s.ppu.ly, _, [], by simp [State.withPpu, State.setInterrupt]; rfl⟩

theorem State.emit_only (s : State) (o : Output) : s.PpuOnly (s.emit o) :=
  ⟨s.ppu.mode, s.ppu.dot, s.ppu.line, s.ppu.ly, s.int.if_, [o], rfl⟩

theorem State.statRequest_only (s : State) (j : Nat) : s.PpuOnly (s.statRequest j) := by
  unfold State.statRequest
  split
  · exact s.setInterrupt_only 1
  · exact .refl s

/-- Leaving a state is one transition of R404. -/
theorem State.leaveMode_only (s : State) : s.PpuOnly s.leaveMode := by
  unfold State.leaveMode
  cases s.ppu.mode <;> simp only
  · exact (s.setMode_only _).trans (State.emit_only _ _)
  · exact (s.setMode_only _).trans (State.statRequest_only _ _)
  · unfold State.endOfLine
    split
    · exact (((s.publishLine_only _).trans (State.setMode_only _ _)).trans (State.setInterrupt_only _ _)).trans
        ((State.emit_only _ _).trans (State.statRequest_only _ _))
    · exact (s.publishLine_only _).trans ((State.setMode_only _ _).trans (State.statRequest_only _ _))
  · unfold State.endOfVBlankLine
    split
    · exact (s.publishLine_only _).trans ((State.setMode_only _ _).trans (State.statRequest_only _ _))
    · exact s.publishLine_only _

theorem State.ppuLoop_only (fuel : Nat) (s : State) : s.PpuOnly (State.ppuLoop fuel s) := by
  induction fuel generalizing s with
  | zero => exact .refl s
  | succ n ih =>
    unfold State.ppuLoop
    split
    · exact .refl s
    · exact ((s.setDot_only _).trans (State.leaveMode_only _)).trans (ih _)

theorem State.ppuAdvance_only (s : State) (n : Nat) : s.PpuOnly (s.ppuAdvance n) := by
  unfold State.ppuAdvance
  split
  · exact (s.setDot_only _).trans (State.ppuLoop_only _ _)
  · exact .refl s

/-- The position of the PPU but for the dot: what a transition keeps legal (R52, R403). -/
structure Ppu.Placed (p : Ppu) : Prop where
  line : p.line < 154
  vBlank : p.mode = .vBlank ↔ 144 ≤ p.line
  ly : p.ly = BitVec.ofNat 8 p.line ∨ p.ly = 0x00

theorem State.setDot_placed {s : State} (h : s.ppu.Placed) (n : Nat) : (s.setDot n).ppu.Placed :=
  ⟨h.line, h.vBlank, h.ly⟩

@[simp] theorem State.leaveMode_dot (s : State) : s.leaveMode.ppu.dot = s.ppu.dot := by
  unfold State.leaveMode
  cases s.ppu.mode <;> simp only
  · rfl
  · simp [State.enterHBlank]
  · unfold State.endOfLine; split <;> simp [State.enterOamSearch]
  · unfold State.endOfVBlankLine; split <;> simp [State.enterOamSearch]

theorem State.leaveMode_placed {s : State} (h : s.ppu.Placed) : s.leaveMode.ppu.Placed := by
  obtain ⟨hl, hv, hy⟩ := h
  unfold State.leaveMode
  cases hm : s.ppu.mode <;> rw [hm] at hv <;> simp only
  · simp only [State.enterPixelTransfer, State.emit_ppu]
    refine ⟨hl, ?_, hy⟩
    simpa using hv
  · simp only [State.enterHBlank, State.statRequest_ppu]
    refine ⟨hl, ?_, hy⟩
    simpa using hv
  · have h144 : s.ppu.line < 144 := by simpa using hv
    unfold State.endOfLine
    split
    · rename_i he
      simp only [State.statRequest_ppu, State.emit_ppu, State.setInterrupt_ppu]
      refine ⟨?_, ?_, .inl rfl⟩ <;> simp [he]
    · rename_i he
      simp only [State.enterOamSearch, State.statRequest_ppu]
      refine ⟨?_, ?_, .inl rfl⟩ <;> simp <;> omega
  · have h144 : 144 ≤ s.ppu.line := by simpa using hv
    unfold State.endOfVBlankLine
    split
    · simp only [State.enterOamSearch, State.statRequest_ppu]
      refine ⟨?_, ?_, .inl rfl⟩ <;> simp
    · rename_i he
      refine ⟨?_, ?_, .inl rfl⟩
      · simp; omega
      · simp [hm]; omega

/-- With enough fuel the loop ends below the budget, in a legal place (R402). -/
theorem State.ppuLoop_placed (fuel : Nat) (s : State) (h : s.ppu.Placed) (hf : s.ppu.dot ≤ fuel) :
    (State.ppuLoop fuel s).ppu.Placed ∧
      (State.ppuLoop fuel s).ppu.dot < (State.ppuLoop fuel s).ppu.mode.budget := by
  have hb : ∀ m : PpuMode, 80 ≤ m.budget := by intro m; cases m <;> simp [PpuMode.budget]
  induction fuel generalizing s with
  | zero => exact ⟨h, by have := hb s.ppu.mode; simp only [State.ppuLoop]; omega⟩
  | succ n ih =>
    unfold State.ppuLoop
    split
    · rename_i hd; exact ⟨h, hd⟩
    · have := hb s.ppu.mode
      exact ih _ (State.leaveMode_placed (State.setDot_placed h _)) (by simp; omega)

/-- The PPU stays legal (R52, R400 to R406). -/
theorem State.ppuAdvance_legal {s : State} (h : s.ppu.Legal) (n : Nat) : (s.ppuAdvance n).ppu.Legal := by
  cases hon : s.lcdOn
  · simpa [State.ppuAdvance, hon] using h
  · have hp := State.ppuLoop_placed (s.ppu.dot + n) (s.setDot (s.ppu.dot + n)) ⟨h.line, h.vBlank, h.ly⟩ (by simp)
    obtain ⟨m, d, l, y, v, os, e⟩ := s.ppuAdvance_only n
    simp only [State.ppuAdvance, hon, if_true] at e ⊢
    refine ⟨hp.2, hp.1.line, hp.1.vBlank, hp.1.ly, fun hoff => ?_⟩
    rw [e] at hoff
    exact absurd hon (by simpa [State.lcdOn, State.withPpu] using hoff)

/-! ### Joypad -/

/-- The state with the keys, IF and the run state written: all an event can change (R395). -/
def State.withHost (s : State) (k : Keys) (v : BitVec 5) (r : RunState) : State :=
  { s with joy := { s.joy with keys := k }, int := { s.int with if_ := v }, runState := r }

/-- An event changes the keys, IF and the run state; the run state only to running (R395). -/
theorem State.hostEvent_only (s : State) (e : HostEvent) :
    ∃ k v r, s.hostEvent e = s.withHost k v r ∧ (r = s.runState ∨ r = .running) := by
  cases e with
  | keyDown k =>
    simp only [State.hostEvent]
    split
    · exact ⟨s.joy.keys, s.int.if_, s.runState, rfl, .inl rfl⟩
    · unfold State.keyPressed
      simp only
      cases s.int.ie.getLsbD 4 <;> by_cases hs : s.runState = .stopped <;> simp only [hs, if_true, if_false]
      · exact ⟨_, s.int.if_, .running, rfl, .inr rfl⟩
      · exact ⟨_, s.int.if_, s.runState, rfl, .inl rfl⟩
      · exact ⟨_, _, .running, rfl, .inr rfl⟩
      · exact ⟨_, _, s.runState, rfl, .inl rfl⟩
  | keyUp k => exact ⟨_, s.int.if_, s.runState, rfl, .inl rfl⟩

theorem State.hostEvents_only (es : List HostEvent) (s : State) :
    ∃ k v r, es.foldl State.hostEvent s = s.withHost k v r ∧ (r = s.runState ∨ r = .running) := by
  induction es generalizing s with
  | nil => exact ⟨s.joy.keys, s.int.if_, s.runState, rfl, .inl rfl⟩
  | cons e es ih =>
    obtain ⟨k, v, r, h, hr⟩ := s.hostEvent_only e
    obtain ⟨k', v', r', h', hr'⟩ := ih (s.hostEvent e)
    refine ⟨k', v', r', by rw [List.foldl_cons, h', h]; rfl, ?_⟩
    rcases hr' with e1 | e1
    · rw [e1, h]; exact hr
    · exact .inr e1

/-- Draining changes the keys, IF, the run state and the queue, nothing else (R395). -/
theorem State.drain_only (s : State) :
    ∃ k v r, s.drain = { s.withHost k v r with hostQueue := [] } ∧ (r = s.runState ∨ r = .running) := by
  obtain ⟨k, v, r, h, hr⟩ := State.hostEvents_only s.hostQueue s
  exact ⟨k, v, r, by rw [State.drain, h]; rfl, hr⟩

@[simp] theorem State.drain_hostQueue (s : State) : s.drain.hostQueue = [] := rfl

/-- An event does not look at the queue, so the queue can be set before or after it (R395). -/
theorem State.hostEvent_setQueue (s : State) (q : List HostEvent) (e : HostEvent) :
    (s.setQueue q).hostEvent e = (s.hostEvent e).setQueue q := by
  cases e with
  | keyDown k =>
    have hj : (s.setQueue q).joy = s.joy := rfl
    simp only [State.hostEvent, hj]
    split
    · rfl
    · have hi : (s.setQueue q).int = s.int := rfl
      have hr : (s.setQueue q).runState = s.runState := rfl
      simp only [State.keyPressed, hj, hi, hr]
      split <;> split <;> rfl
  | keyUp k => rfl

theorem State.hostEvents_setQueue (es : List HostEvent) (s : State) (q : List HostEvent) :
    es.foldl State.hostEvent (s.setQueue q) = (es.foldl State.hostEvent s).setQueue q := by
  induction es generalizing s with
  | nil => rfl
  | cons e es ih => rw [List.foldl_cons, List.foldl_cons, State.hostEvent_setQueue, ih]

/-- Draining takes the events in the order posted (R395). -/
theorem State.drain_cons {s : State} {e : HostEvent} {es : List HostEvent} (h : s.hostQueue = e :: es) :
    s.drain = ((s.hostEvent e).setQueue es).drain := by
  have hq : ((s.hostEvent e).setQueue es).hostQueue = es := rfl
  rw [State.drain, State.drain, hq, h, List.foldl_cons, State.hostEvents_setQueue]
  rfl

theorem State.drain_nil {s : State} (h : s.hostQueue = []) : s.drain = s := by
  rw [State.drain, h, List.foldl_nil, ← h]
  rfl

@[simp] theorem State.drain_drain (s : State) : s.drain.drain = s.drain := State.drain_nil s.drain_hostQueue

theorem State.drain_fault (s : State) : s.drain.fault = s.fault := by
  obtain ⟨k, v, r, h, -⟩ := s.drain_only
  rw [h]
  rfl

end Sys2Proof.Machine
end

