-- ==== Sys2Proof/Laws/Effects.lean ====
section
/-! SUPPORT. Every instruction has an effect of the shape of Exec.lean at the addresses of `storeSpan`, and what follows of
it: storage, the PPU, the ROM, the parameters, the outputs, F and the cost. -/

namespace Sys2Proof.Machine

/-- Every instruction but the prefix byte has its effect at the addresses the rules name. -/
theorem stores_effect {i : Instr} {s t : State} (hp : i ≠ .prefix_CB) (h : exec i s = .next t) :
    Effect s t (Instr.stores i s) := by
  cases i with
  | nop => exact by cases h; exact Effect.cpu _ _ _ _ rfl (.same s rfl) (by decide)
  | ld_BC_nn _ => exact ldPairImm_effect _ _ s t h
  | ld_mBC_A => exact storeByte_effect h
  | inc_BC => exact incPair_effect _ s t h
  | inc_B => exact incReg_effect _ s t h
  | dec_B => exact decReg_effect _ s t h
  | ld_B_n _ => exact ldRegImm_effect _ _ s t h
  | rlca => exact rotAcc_effect _ s t h
  | ld_mnn_SP _ => exact storeSP_effect h
  | add_HL_BC => exact addHL_effect _ s t h
  | ld_A_mBC => exact loadReg_effect h
  | dec_BC => exact decPair_effect _ s t h
  | inc_C => exact incReg_effect _ s t h
  | dec_C => exact decReg_effect _ s t h
  | ld_C_n _ => exact ldRegImm_effect _ _ s t h
  | rrca => exact rotAcc_effect _ s t h
  | stop _ => exact by cases h; exact Effect.cpu _ _ _ _ rfl (.same s rfl) (by decide)
  | ld_DE_nn _ => exact ldPairImm_effect _ _ s t h
  | ld_mDE_A => exact storeByte_effect h
  | inc_DE => exact incPair_effect _ s t h
  | inc_D => exact incReg_effect _ s t h
  | dec_D => exact decReg_effect _ s t h
  | ld_D_n _ => exact ldRegImm_effect _ _ s t h
  | rla => exact rotAcc_effect _ s t h
  | jr_e _ => exact jumpTo_effect _ _ (by decide) s t h
  | add_HL_DE => exact addHL_effect _ s t h
  | ld_A_mDE => exact loadReg_effect h
  | dec_DE => exact decPair_effect _ s t h
  | inc_E => exact incReg_effect _ s t h
  | dec_E => exact decReg_effect _ s t h
  | ld_E_n _ => exact ldRegImm_effect _ _ s t h
  | rra => exact rotAcc_effect _ s t h
  | jr_NZ_e _ => exact conditional_cpuOnly (jumpTo_effect _ _) h
  | ld_HL_nn _ => exact ldPairImm_effect _ _ s t h
  | ld_mHLi_A => exact storeStepHL_effect h
  | inc_HL => exact incPair_effect _ s t h
  | inc_H => exact incReg_effect _ s t h
  | dec_H => exact decReg_effect _ s t h
  | ld_H_n _ => exact ldRegImm_effect _ _ s t h
  | daa => exact modifyReg_effect (f := fun v => daa8 v s.flags) h
  | jr_Z_e _ => exact conditional_cpuOnly (jumpTo_effect _ _) h
  | add_HL_HL => exact addHL_effect _ s t h
  | ld_A_mHLi => exact loadStepHL_effect _ s t h
  | dec_HL => exact decPair_effect _ s t h
  | inc_L => exact incReg_effect _ s t h
  | dec_L => exact decReg_effect _ s t h
  | ld_L_n _ => exact ldRegImm_effect _ _ s t h
  | cpl => exact by cases h; exact Effect.cpu _ _ _ _ rfl (.pack s _ _) (by decide)
  | jr_NC_e _ => exact conditional_cpuOnly (jumpTo_effect _ _) h
  | ld_SP_nn _ => exact ldPairImm_effect _ _ s t h
  | ld_mHLd_A => exact storeStepHL_effect h
  | inc_SP => exact incPair_effect _ s t h
  | inc_mHL => exact modifyInd_effect (f := fun v => inc8 v s.flags) h
  | dec_mHL => exact modifyInd_effect (f := fun v => dec8 v s.flags) h
  | ld_mHL_n _ => exact storeByte_effect h
  | scf => exact by cases h; exact Effect.cpu _ _ _ _ rfl (.pack s _ _) (by decide)
  | jr_C_e _ => exact conditional_cpuOnly (jumpTo_effect _ _) h
  | add_HL_SP => exact addHL_effect _ s t h
  | ld_A_mHLd => exact loadStepHL_effect _ s t h
  | dec_SP => exact decPair_effect _ s t h
  | inc_A => exact incReg_effect _ s t h
  | dec_A => exact decReg_effect _ s t h
  | ld_A_n _ => exact ldRegImm_effect _ _ s t h
  | ccf => exact by cases h; exact Effect.cpu _ _ _ _ rfl (.pack s _ _) (by decide)
  | ld_B_B => exact ldRegReg_effect _ _ s t h
  | ld_B_C => exact ldRegReg_effect _ _ s t h
  | ld_B_D => exact ldRegReg_effect _ _ s t h
  | ld_B_E => exact ldRegReg_effect _ _ s t h
  | ld_B_H => exact ldRegReg_effect _ _ s t h
  | ld_B_L => exact ldRegReg_effect _ _ s t h
  | ld_B_mHL => exact loadReg_effect h
  | ld_B_A => exact ldRegReg_effect _ _ s t h
  | ld_C_B => exact ldRegReg_effect _ _ s t h
  | ld_C_C => exact ldRegReg_effect _ _ s t h
  | ld_C_D => exact ldRegReg_effect _ _ s t h
  | ld_C_E => exact ldRegReg_effect _ _ s t h
  | ld_C_H => exact ldRegReg_effect _ _ s t h
  | ld_C_L => exact ldRegReg_effect _ _ s t h
  | ld_C_mHL => exact loadReg_effect h
  | ld_C_A => exact ldRegReg_effect _ _ s t h
  | ld_D_B => exact ldRegReg_effect _ _ s t h
  | ld_D_C => exact ldRegReg_effect _ _ s t h
  | ld_D_D => exact ldRegReg_effect _ _ s t h
  | ld_D_E => exact ldRegReg_effect _ _ s t h
  | ld_D_H => exact ldRegReg_effect _ _ s t h
  | ld_D_L => exact ldRegReg_effect _ _ s t h
  | ld_D_mHL => exact loadReg_effect h
  | ld_D_A => exact ldRegReg_effect _ _ s t h
  | ld_E_B => exact ldRegReg_effect _ _ s t h
  | ld_E_C => exact ldRegReg_effect _ _ s t h
  | ld_E_D => exact ldRegReg_effect _ _ s t h
  | ld_E_E => exact ldRegReg_effect _ _ s t h
  | ld_E_H => exact ldRegReg_effect _ _ s t h
  | ld_E_L => exact ldRegReg_effect _ _ s t h
  | ld_E_mHL => exact loadReg_effect h
  | ld_E_A => exact ldRegReg_effect _ _ s t h
  | ld_H_B => exact ldRegReg_effect _ _ s t h
  | ld_H_C => exact ldRegReg_effect _ _ s t h
  | ld_H_D => exact ldRegReg_effect _ _ s t h
  | ld_H_E => exact ldRegReg_effect _ _ s t h
  | ld_H_H => exact ldRegReg_effect _ _ s t h
  | ld_H_L => exact ldRegReg_effect _ _ s t h
  | ld_H_mHL => exact loadReg_effect h
  | ld_H_A => exact ldRegReg_effect _ _ s t h
  | ld_L_B => exact ldRegReg_effect _ _ s t h
  | ld_L_C => exact ldRegReg_effect _ _ s t h
  | ld_L_D => exact ldRegReg_effect _ _ s t h
  | ld_L_E => exact ldRegReg_effect _ _ s t h
  | ld_L_H => exact ldRegReg_effect _ _ s t h
  | ld_L_L => exact ldRegReg_effect _ _ s t h
  | ld_L_mHL => exact loadReg_effect h
  | ld_L_A => exact ldRegReg_effect _ _ s t h
  | ld_mHL_B => exact storeByte_effect h
  | ld_mHL_C => exact storeByte_effect h
  | ld_mHL_D => exact storeByte_effect h
  | ld_mHL_E => exact storeByte_effect h
  | ld_mHL_H => exact storeByte_effect h
  | ld_mHL_L => exact storeByte_effect h
  | halt => exact by cases h; exact Effect.cpu _ _ _ _ rfl (.same s rfl) (by decide)
  | ld_mHL_A => exact storeByte_effect h
  | ld_A_B => exact ldRegReg_effect _ _ s t h
  | ld_A_C => exact ldRegReg_effect _ _ s t h
  | ld_A_D => exact ldRegReg_effect _ _ s t h
  | ld_A_E => exact ldRegReg_effect _ _ s t h
  | ld_A_H => exact ldRegReg_effect _ _ s t h
  | ld_A_L => exact ldRegReg_effect _ _ s t h
  | ld_A_mHL => exact loadReg_effect h
  | ld_A_A => exact ldRegReg_effect _ _ s t h
  | add_A_B => exact aluReg_effect _ _ s t h
  | add_A_C => exact aluReg_effect _ _ s t h
  | add_A_D => exact aluReg_effect _ _ s t h
  | add_A_E => exact aluReg_effect _ _ s t h
  | add_A_H => exact aluReg_effect _ _ s t h
  | add_A_L => exact aluReg_effect _ _ s t h
  | add_A_mHL => exact aluInd_effect _ s t h
  | add_A_A => exact aluReg_effect _ _ s t h
  | adc_A_B => exact aluReg_effect _ _ s t h
  | adc_A_C => exact aluReg_effect _ _ s t h
  | adc_A_D => exact aluReg_effect _ _ s t h
  | adc_A_E => exact aluReg_effect _ _ s t h
  | adc_A_H => exact aluReg_effect _ _ s t h
  | adc_A_L => exact aluReg_effect _ _ s t h
  | adc_A_mHL => exact aluInd_effect _ s t h
  | adc_A_A => exact aluReg_effect _ _ s t h
  | sub_B => exact aluReg_effect _ _ s t h
  | sub_C => exact aluReg_effect _ _ s t h
  | sub_D => exact aluReg_effect _ _ s t h
  | sub_E => exact aluReg_effect _ _ s t h
  | sub_H => exact aluReg_effect _ _ s t h
  | sub_L => exact aluReg_effect _ _ s t h
  | sub_mHL => exact aluInd_effect _ s t h
  | sub_A => exact aluReg_effect _ _ s t h
  | sbc_A_B => exact aluReg_effect _ _ s t h
  | sbc_A_C => exact aluReg_effect _ _ s t h
  | sbc_A_D => exact aluReg_effect _ _ s t h
  | sbc_A_E => exact aluReg_effect _ _ s t h
  | sbc_A_H => exact aluReg_effect _ _ s t h
  | sbc_A_L => exact aluReg_effect _ _ s t h
  | sbc_A_mHL => exact aluInd_effect _ s t h
  | sbc_A_A => exact aluReg_effect _ _ s t h
  | and_B => exact aluReg_effect _ _ s t h
  | and_C => exact aluReg_effect _ _ s t h
  | and_D => exact aluReg_effect _ _ s t h
  | and_E => exact aluReg_effect _ _ s t h
  | and_H => exact aluReg_effect _ _ s t h
  | and_L => exact aluReg_effect _ _ s t h
  | and_mHL => exact aluInd_effect _ s t h
  | and_A => exact aluReg_effect _ _ s t h
  | xor_B => exact aluReg_effect _ _ s t h
  | xor_C => exact aluReg_effect _ _ s t h
  | xor_D => exact aluReg_effect _ _ s t h
  | xor_E => exact aluReg_effect _ _ s t h
  | xor_H => exact aluReg_effect _ _ s t h
  | xor_L => exact aluReg_effect _ _ s t h
  | xor_mHL => exact aluInd_effect _ s t h
  | xor_A => exact aluReg_effect _ _ s t h
  | or_B => exact aluReg_effect _ _ s t h
  | or_C => exact aluReg_effect _ _ s t h
  | or_D => exact aluReg_effect _ _ s t h
  | or_E => exact aluReg_effect _ _ s t h
  | or_H => exact aluReg_effect _ _ s t h
  | or_L => exact aluReg_effect _ _ s t h
  | or_mHL => exact aluInd_effect _ s t h
  | or_A => exact aluReg_effect _ _ s t h
  | cp_B => exact aluReg_effect _ _ s t h
  | cp_C => exact aluReg_effect _ _ s t h
  | cp_D => exact aluReg_effect _ _ s t h
  | cp_E => exact aluReg_effect _ _ s t h
  | cp_H => exact aluReg_effect _ _ s t h
  | cp_L => exact aluReg_effect _ _ s t h
  | cp_mHL => exact aluInd_effect _ s t h
  | cp_A => exact aluReg_effect _ _ s t h
  | ret_NZ => exact conditional_cpuOnly (returnWith_effect _) h
  | pop_BC => exact popPair_effect _ s t h
  | jp_NZ_nn _ => exact conditional_cpuOnly (jumpTo_effect _ _) h
  | jp_nn _ => exact jumpTo_effect _ _ (by decide) s t h
  | call_NZ_nn _ => exact conditional_effect callTo_effect h
  | push_BC => exact pushPair_effect h
  | add_A_n _ => exact aluImm_effect _ _ s t h
  | rst_00 => exact callTo_effect h
  | ret_Z => exact conditional_cpuOnly (returnWith_effect _) h
  | ret => exact returnWith_effect _ (by decide) s t h
  | jp_Z_nn _ => exact conditional_cpuOnly (jumpTo_effect _ _) h
  | prefix_CB => exact absurd rfl hp
  | call_Z_nn _ => exact conditional_effect callTo_effect h
  | call_nn _ => exact callTo_effect h
  | adc_A_n _ => exact aluImm_effect _ _ s t h
  | rst_08 => exact callTo_effect h
  | ret_NC => exact conditional_cpuOnly (returnWith_effect _) h
  | pop_DE => exact popPair_effect _ s t h
  | jp_NC_nn _ => exact conditional_cpuOnly (jumpTo_effect _ _) h
  | illegal _ => exact nomatch h
  | call_NC_nn _ => exact conditional_effect callTo_effect h
  | push_DE => exact pushPair_effect h
  | sub_n _ => exact aluImm_effect _ _ s t h
  | rst_10 => exact callTo_effect h
  | ret_C => exact conditional_cpuOnly (returnWith_effect _) h
  | reti => exact reti_effect s t h
  | jp_C_nn _ => exact conditional_cpuOnly (jumpTo_effect _ _) h
  | call_C_nn _ => exact conditional_effect callTo_effect h
  | sbc_A_n _ => exact aluImm_effect _ _ s t h
  | rst_18 => exact callTo_effect h
  | ldh_mn_A _ => exact storeByte_effect h
  | pop_HL => exact popPair_effect _ s t h
  | ld_mC_A => exact storeByte_effect h
  | push_HL => exact pushPair_effect h
  | and_n _ => exact aluImm_effect _ _ s t h
  | rst_20 => exact callTo_effect h
  | add_SP_e _ => exact addSPe_effect _ s t h
  | jp_HL => exact jumpTo_effect _ _ (by decide) s t h
  | ld_mnn_A _ => exact storeByte_effect h
  | xor_n _ => exact aluImm_effect _ _ s t h
  | rst_28 => exact callTo_effect h
  | ldh_A_mn _ => exact loadReg_effect h
  | pop_AF => exact popPair_effect _ s t h
  | ld_A_mC => exact loadReg_effect h
  | di => exact by cases h; exact Effect.cpu _ _ _ _ rfl (.same s rfl) (by decide)
  | push_AF => exact pushPair_effect h
  | or_n _ => exact aluImm_effect _ _ s t h
  | rst_30 => exact callTo_effect h
  | ld_HL_SPe _ => exact ldHLSPe_effect _ s t h
  | ld_SP_HL => exact ldSPHL_effect s t h
  | ld_A_mnn _ => exact loadReg_effect h
  | ei => exact by cases h; exact Effect.cpu _ _ _ _ rfl (.same s rfl) (by decide)
  | cp_n _ => exact aluImm_effect _ _ s t h
  | rst_38 => exact callTo_effect h
  | rlc_B => exact rotOpnd_effect .rlc (.reg .b) h
  | rlc_C => exact rotOpnd_effect .rlc (.reg .c) h
  | rlc_D => exact rotOpnd_effect .rlc (.reg .d) h
  | rlc_E => exact rotOpnd_effect .rlc (.reg .e) h
  | rlc_H => exact rotOpnd_effect .rlc (.reg .h) h
  | rlc_L => exact rotOpnd_effect .rlc (.reg .l) h
  | rlc_mHL => exact rotOpnd_effect .rlc .mHL h
  | rlc_A => exact rotOpnd_effect .rlc (.reg .a) h
  | rrc_B => exact rotOpnd_effect .rrc (.reg .b) h
  | rrc_C => exact rotOpnd_effect .rrc (.reg .c) h
  | rrc_D => exact rotOpnd_effect .rrc (.reg .d) h
  | rrc_E => exact rotOpnd_effect .rrc (.reg .e) h
  | rrc_H => exact rotOpnd_effect .rrc (.reg .h) h
  | rrc_L => exact rotOpnd_effect .rrc (.reg .l) h
  | rrc_mHL => exact rotOpnd_effect .rrc .mHL h
  | rrc_A => exact rotOpnd_effect .rrc (.reg .a) h
  | rl_B => exact rotOpnd_effect .rl (.reg .b) h
  | rl_C => exact rotOpnd_effect .rl (.reg .c) h
  | rl_D => exact rotOpnd_effect .rl (.reg .d) h
  | rl_E => exact rotOpnd_effect .rl (.reg .e) h
  | rl_H => exact rotOpnd_effect .rl (.reg .h) h
  | rl_L => exact rotOpnd_effect .rl (.reg .l) h
  | rl_mHL => exact rotOpnd_effect .rl .mHL h
  | rl_A => exact rotOpnd_effect .rl (.reg .a) h
  | rr_B => exact rotOpnd_effect .rr (.reg .b) h
  | rr_C => exact rotOpnd_effect .rr (.reg .c) h
  | rr_D => exact rotOpnd_effect .rr (.reg .d) h
  | rr_E => exact rotOpnd_effect .rr (.reg .e) h
  | rr_H => exact rotOpnd_effect .rr (.reg .h) h
  | rr_L => exact rotOpnd_effect .rr (.reg .l) h
  | rr_mHL => exact rotOpnd_effect .rr .mHL h
  | rr_A => exact rotOpnd_effect .rr (.reg .a) h
  | sla_B => exact rotOpnd_effect .sla (.reg .b) h
  | sla_C => exact rotOpnd_effect .sla (.reg .c) h
  | sla_D => exact rotOpnd_effect .sla (.reg .d) h
  | sla_E => exact rotOpnd_effect .sla (.reg .e) h
  | sla_H => exact rotOpnd_effect .sla (.reg .h) h
  | sla_L => exact rotOpnd_effect .sla (.reg .l) h
  | sla_mHL => exact rotOpnd_effect .sla .mHL h
  | sla_A => exact rotOpnd_effect .sla (.reg .a) h
  | sra_B => exact rotOpnd_effect .sra (.reg .b) h
  | sra_C => exact rotOpnd_effect .sra (.reg .c) h
  | sra_D => exact rotOpnd_effect .sra (.reg .d) h
  | sra_E => exact rotOpnd_effect .sra (.reg .e) h
  | sra_H => exact rotOpnd_effect .sra (.reg .h) h
  | sra_L => exact rotOpnd_effect .sra (.reg .l) h
  | sra_mHL => exact rotOpnd_effect .sra .mHL h
  | sra_A => exact rotOpnd_effect .sra (.reg .a) h
  | swap_B => exact rotOpnd_effect .swap (.reg .b) h
  | swap_C => exact rotOpnd_effect .swap (.reg .c) h
  | swap_D => exact rotOpnd_effect .swap (.reg .d) h
  | swap_E => exact rotOpnd_effect .swap (.reg .e) h
  | swap_H => exact rotOpnd_effect .swap (.reg .h) h
  | swap_L => exact rotOpnd_effect .swap (.reg .l) h
  | swap_mHL => exact rotOpnd_effect .swap .mHL h
  | swap_A => exact rotOpnd_effect .swap (.reg .a) h
  | srl_B => exact rotOpnd_effect .srl (.reg .b) h
  | srl_C => exact rotOpnd_effect .srl (.reg .c) h
  | srl_D => exact rotOpnd_effect .srl (.reg .d) h
  | srl_E => exact rotOpnd_effect .srl (.reg .e) h
  | srl_H => exact rotOpnd_effect .srl (.reg .h) h
  | srl_L => exact rotOpnd_effect .srl (.reg .l) h
  | srl_mHL => exact rotOpnd_effect .srl .mHL h
  | srl_A => exact rotOpnd_effect .srl (.reg .a) h
  | bit_0_B => exact bitOpnd_effect 0 (.reg .b) s t h
  | bit_0_C => exact bitOpnd_effect 0 (.reg .c) s t h
  | bit_0_D => exact bitOpnd_effect 0 (.reg .d) s t h
  | bit_0_E => exact bitOpnd_effect 0 (.reg .e) s t h
  | bit_0_H => exact bitOpnd_effect 0 (.reg .h) s t h
  | bit_0_L => exact bitOpnd_effect 0 (.reg .l) s t h
  | bit_0_mHL => exact bitOpnd_effect 0 .mHL s t h
  | bit_0_A => exact bitOpnd_effect 0 (.reg .a) s t h
  | bit_1_B => exact bitOpnd_effect 1 (.reg .b) s t h
  | bit_1_C => exact bitOpnd_effect 1 (.reg .c) s t h
  | bit_1_D => exact bitOpnd_effect 1 (.reg .d) s t h
  | bit_1_E => exact bitOpnd_effect 1 (.reg .e) s t h
  | bit_1_H => exact bitOpnd_effect 1 (.reg .h) s t h
  | bit_1_L => exact bitOpnd_effect 1 (.reg .l) s t h
  | bit_1_mHL => exact bitOpnd_effect 1 .mHL s t h
  | bit_1_A => exact bitOpnd_effect 1 (.reg .a) s t h
  | bit_2_B => exact bitOpnd_effect 2 (.reg .b) s t h
  | bit_2_C => exact bitOpnd_effect 2 (.reg .c) s t h
  | bit_2_D => exact bitOpnd_effect 2 (.reg .d) s t h
  | bit_2_E => exact bitOpnd_effect 2 (.reg .e) s t h
  | bit_2_H => exact bitOpnd_effect 2 (.reg .h) s t h
  | bit_2_L => exact bitOpnd_effect 2 (.reg .l) s t h
  | bit_2_mHL => exact bitOpnd_effect 2 .mHL s t h
  | bit_2_A => exact bitOpnd_effect 2 (.reg .a) s t h
  | bit_3_B => exact bitOpnd_effect 3 (.reg .b) s t h
  | bit_3_C => exact bitOpnd_effect 3 (.reg .c) s t h
  | bit_3_D => exact bitOpnd_effect 3 (.reg .d) s t h
  | bit_3_E => exact bitOpnd_effect 3 (.reg .e) s t h
  | bit_3_H => exact bitOpnd_effect 3 (.reg .h) s t h
  | bit_3_L => exact bitOpnd_effect 3 (.reg .l) s t h
  | bit_3_mHL => exact bitOpnd_effect 3 .mHL s t h
  | bit_3_A => exact bitOpnd_effect 3 (.reg .a) s t h
  | bit_4_B => exact bitOpnd_effect 4 (.reg .b) s t h
  | bit_4_C => exact bitOpnd_effect 4 (.reg .c) s t h
  | bit_4_D => exact bitOpnd_effect 4 (.reg .d) s t h
  | bit_4_E => exact bitOpnd_effect 4 (.reg .e) s t h
  | bit_4_H => exact bitOpnd_effect 4 (.reg .h) s t h
  | bit_4_L => exact bitOpnd_effect 4 (.reg .l) s t h
  | bit_4_mHL => exact bitOpnd_effect 4 .mHL s t h
  | bit_4_A => exact bitOpnd_effect 4 (.reg .a) s t h
  | bit_5_B => exact bitOpnd_effect 5 (.reg .b) s t h
  | bit_5_C => exact bitOpnd_effect 5 (.reg .c) s t h
  | bit_5_D => exact bitOpnd_effect 5 (.reg .d) s t h
  | bit_5_E => exact bitOpnd_effect 5 (.reg .e) s t h
  | bit_5_H => exact bitOpnd_effect 5 (.reg .h) s t h
  | bit_5_L => exact bitOpnd_effect 5 (.reg .l) s t h
  | bit_5_mHL => exact bitOpnd_effect 5 .mHL s t h
  | bit_5_A => exact bitOpnd_effect 5 (.reg .a) s t h
  | bit_6_B => exact bitOpnd_effect 6 (.reg .b) s t h
  | bit_6_C => exact bitOpnd_effect 6 (.reg .c) s t h
  | bit_6_D => exact bitOpnd_effect 6 (.reg .d) s t h
  | bit_6_E => exact bitOpnd_effect 6 (.reg .e) s t h
  | bit_6_H => exact bitOpnd_effect 6 (.reg .h) s t h
  | bit_6_L => exact bitOpnd_effect 6 (.reg .l) s t h
  | bit_6_mHL => exact bitOpnd_effect 6 .mHL s t h
  | bit_6_A => exact bitOpnd_effect 6 (.reg .a) s t h
  | bit_7_B => exact bitOpnd_effect 7 (.reg .b) s t h
  | bit_7_C => exact bitOpnd_effect 7 (.reg .c) s t h
  | bit_7_D => exact bitOpnd_effect 7 (.reg .d) s t h
  | bit_7_E => exact bitOpnd_effect 7 (.reg .e) s t h
  | bit_7_H => exact bitOpnd_effect 7 (.reg .h) s t h
  | bit_7_L => exact bitOpnd_effect 7 (.reg .l) s t h
  | bit_7_mHL => exact bitOpnd_effect 7 .mHL s t h
  | bit_7_A => exact bitOpnd_effect 7 (.reg .a) s t h
  | res_0_B => exact resOpnd_effect 0 (.reg .b) h
  | res_0_C => exact resOpnd_effect 0 (.reg .c) h
  | res_0_D => exact resOpnd_effect 0 (.reg .d) h
  | res_0_E => exact resOpnd_effect 0 (.reg .e) h
  | res_0_H => exact resOpnd_effect 0 (.reg .h) h
  | res_0_L => exact resOpnd_effect 0 (.reg .l) h
  | res_0_mHL => exact resOpnd_effect 0 .mHL h
  | res_0_A => exact resOpnd_effect 0 (.reg .a) h
  | res_1_B => exact resOpnd_effect 1 (.reg .b) h
  | res_1_C => exact resOpnd_effect 1 (.reg .c) h
  | res_1_D => exact resOpnd_effect 1 (.reg .d) h
  | res_1_E => exact resOpnd_effect 1 (.reg .e) h
  | res_1_H => exact resOpnd_effect 1 (.reg .h) h
  | res_1_L => exact resOpnd_effect 1 (.reg .l) h
  | res_1_mHL => exact resOpnd_effect 1 .mHL h
  | res_1_A => exact resOpnd_effect 1 (.reg .a) h
  | res_2_B => exact resOpnd_effect 2 (.reg .b) h
  | res_2_C => exact resOpnd_effect 2 (.reg .c) h
  | res_2_D => exact resOpnd_effect 2 (.reg .d) h
  | res_2_E => exact resOpnd_effect 2 (.reg .e) h
  | res_2_H => exact resOpnd_effect 2 (.reg .h) h
  | res_2_L => exact resOpnd_effect 2 (.reg .l) h
  | res_2_mHL => exact resOpnd_effect 2 .mHL h
  | res_2_A => exact resOpnd_effect 2 (.reg .a) h
  | res_3_B => exact resOpnd_effect 3 (.reg .b) h
  | res_3_C => exact resOpnd_effect 3 (.reg .c) h
  | res_3_D => exact resOpnd_effect 3 (.reg .d) h
  | res_3_E => exact resOpnd_effect 3 (.reg .e) h
  | res_3_H => exact resOpnd_effect 3 (.reg .h) h
  | res_3_L => exact resOpnd_effect 3 (.reg .l) h
  | res_3_mHL => exact resOpnd_effect 3 .mHL h
  | res_3_A => exact resOpnd_effect 3 (.reg .a) h
  | res_4_B => exact resOpnd_effect 4 (.reg .b) h
  | res_4_C => exact resOpnd_effect 4 (.reg .c) h
  | res_4_D => exact resOpnd_effect 4 (.reg .d) h
  | res_4_E => exact resOpnd_effect 4 (.reg .e) h
  | res_4_H => exact resOpnd_effect 4 (.reg .h) h
  | res_4_L => exact resOpnd_effect 4 (.reg .l) h
  | res_4_mHL => exact resOpnd_effect 4 .mHL h
  | res_4_A => exact resOpnd_effect 4 (.reg .a) h
  | res_5_B => exact resOpnd_effect 5 (.reg .b) h
  | res_5_C => exact resOpnd_effect 5 (.reg .c) h
  | res_5_D => exact resOpnd_effect 5 (.reg .d) h
  | res_5_E => exact resOpnd_effect 5 (.reg .e) h
  | res_5_H => exact resOpnd_effect 5 (.reg .h) h
  | res_5_L => exact resOpnd_effect 5 (.reg .l) h
  | res_5_mHL => exact resOpnd_effect 5 .mHL h
  | res_5_A => exact resOpnd_effect 5 (.reg .a) h
  | res_6_B => exact resOpnd_effect 6 (.reg .b) h
  | res_6_C => exact resOpnd_effect 6 (.reg .c) h
  | res_6_D => exact resOpnd_effect 6 (.reg .d) h
  | res_6_E => exact resOpnd_effect 6 (.reg .e) h
  | res_6_H => exact resOpnd_effect 6 (.reg .h) h
  | res_6_L => exact resOpnd_effect 6 (.reg .l) h
  | res_6_mHL => exact resOpnd_effect 6 .mHL h
  | res_6_A => exact resOpnd_effect 6 (.reg .a) h
  | res_7_B => exact resOpnd_effect 7 (.reg .b) h
  | res_7_C => exact resOpnd_effect 7 (.reg .c) h
  | res_7_D => exact resOpnd_effect 7 (.reg .d) h
  | res_7_E => exact resOpnd_effect 7 (.reg .e) h
  | res_7_H => exact resOpnd_effect 7 (.reg .h) h
  | res_7_L => exact resOpnd_effect 7 (.reg .l) h
  | res_7_mHL => exact resOpnd_effect 7 .mHL h
  | res_7_A => exact resOpnd_effect 7 (.reg .a) h
  | set_0_B => exact setOpnd_effect 0 (.reg .b) h
  | set_0_C => exact setOpnd_effect 0 (.reg .c) h
  | set_0_D => exact setOpnd_effect 0 (.reg .d) h
  | set_0_E => exact setOpnd_effect 0 (.reg .e) h
  | set_0_H => exact setOpnd_effect 0 (.reg .h) h
  | set_0_L => exact setOpnd_effect 0 (.reg .l) h
  | set_0_mHL => exact setOpnd_effect 0 .mHL h
  | set_0_A => exact setOpnd_effect 0 (.reg .a) h
  | set_1_B => exact setOpnd_effect 1 (.reg .b) h
  | set_1_C => exact setOpnd_effect 1 (.reg .c) h
  | set_1_D => exact setOpnd_effect 1 (.reg .d) h
  | set_1_E => exact setOpnd_effect 1 (.reg .e) h
  | set_1_H => exact setOpnd_effect 1 (.reg .h) h
  | set_1_L => exact setOpnd_effect 1 (.reg .l) h
  | set_1_mHL => exact setOpnd_effect 1 .mHL h
  | set_1_A => exact setOpnd_effect 1 (.reg .a) h
  | set_2_B => exact setOpnd_effect 2 (.reg .b) h
  | set_2_C => exact setOpnd_effect 2 (.reg .c) h
  | set_2_D => exact setOpnd_effect 2 (.reg .d) h
  | set_2_E => exact setOpnd_effect 2 (.reg .e) h
  | set_2_H => exact setOpnd_effect 2 (.reg .h) h
  | set_2_L => exact setOpnd_effect 2 (.reg .l) h
  | set_2_mHL => exact setOpnd_effect 2 .mHL h
  | set_2_A => exact setOpnd_effect 2 (.reg .a) h
  | set_3_B => exact setOpnd_effect 3 (.reg .b) h
  | set_3_C => exact setOpnd_effect 3 (.reg .c) h
  | set_3_D => exact setOpnd_effect 3 (.reg .d) h
  | set_3_E => exact setOpnd_effect 3 (.reg .e) h
  | set_3_H => exact setOpnd_effect 3 (.reg .h) h
  | set_3_L => exact setOpnd_effect 3 (.reg .l) h
  | set_3_mHL => exact setOpnd_effect 3 .mHL h
  | set_3_A => exact setOpnd_effect 3 (.reg .a) h
  | set_4_B => exact setOpnd_effect 4 (.reg .b) h
  | set_4_C => exact setOpnd_effect 4 (.reg .c) h
  | set_4_D => exact setOpnd_effect 4 (.reg .d) h
  | set_4_E => exact setOpnd_effect 4 (.reg .e) h
  | set_4_H => exact setOpnd_effect 4 (.reg .h) h
  | set_4_L => exact setOpnd_effect 4 (.reg .l) h
  | set_4_mHL => exact setOpnd_effect 4 .mHL h
  | set_4_A => exact setOpnd_effect 4 (.reg .a) h
  | set_5_B => exact setOpnd_effect 5 (.reg .b) h
  | set_5_C => exact setOpnd_effect 5 (.reg .c) h
  | set_5_D => exact setOpnd_effect 5 (.reg .d) h
  | set_5_E => exact setOpnd_effect 5 (.reg .e) h
  | set_5_H => exact setOpnd_effect 5 (.reg .h) h
  | set_5_L => exact setOpnd_effect 5 (.reg .l) h
  | set_5_mHL => exact setOpnd_effect 5 .mHL h
  | set_5_A => exact setOpnd_effect 5 (.reg .a) h
  | set_6_B => exact setOpnd_effect 6 (.reg .b) h
  | set_6_C => exact setOpnd_effect 6 (.reg .c) h
  | set_6_D => exact setOpnd_effect 6 (.reg .d) h
  | set_6_E => exact setOpnd_effect 6 (.reg .e) h
  | set_6_H => exact setOpnd_effect 6 (.reg .h) h
  | set_6_L => exact setOpnd_effect 6 (.reg .l) h
  | set_6_mHL => exact setOpnd_effect 6 .mHL h
  | set_6_A => exact setOpnd_effect 6 (.reg .a) h
  | set_7_B => exact setOpnd_effect 7 (.reg .b) h
  | set_7_C => exact setOpnd_effect 7 (.reg .c) h
  | set_7_D => exact setOpnd_effect 7 (.reg .d) h
  | set_7_E => exact setOpnd_effect 7 (.reg .e) h
  | set_7_H => exact setOpnd_effect 7 (.reg .h) h
  | set_7_L => exact setOpnd_effect 7 (.reg .l) h
  | set_7_mHL => exact setOpnd_effect 7 .mHL h
  | set_7_A => exact setOpnd_effect 7 (.reg .a) h

theorem decodeCb_ne_prefix (op2 : Byte) : decodeCb op2 ≠ .prefix_CB := by
  intro e
  have h : (decodeCb op2).wellFormed = false := by rw [e]; rfl
  unfold decodeCb at h
  generalize fieldX op2 = x at h
  rcases x with _ | _ | _ | x <;> simp only at h
  · generalize rotOpOf (fieldY op2) = op at h
    generalize opnd8Of (fieldZ op2) = o at h
    revert h
    cases op <;> cases o <;> first | decide | (rename_i r; cases r <;> decide)
  all_goals
    generalize fieldY op2 = n at h
    generalize opnd8Of (fieldZ op2) = o at h
    revert h
    cases n <;> cases o <;> first | decide | (rename_i r; cases r <;> decide)

/-- Every instruction has its effect at the addresses of `storeSpan`. -/
theorem exec_effect {i : Instr} {s t : State} (h : exec i s = .next t) : Effect s t (storeSpan i s) := by
  by_cases hp : i = .prefix_CB
  · subst hp
    obtain ⟨⟨op2, u⟩, hu, h⟩ := andThen_next_iff.1 h
    have e : storeSpan .prefix_CB s = Instr.stores (decodeCb op2) u := by simp only [storeSpan, hu]
    rw [e]
    rw [State.fetch8_eq] at hu
    split at hu
    · cases hu
      replace h : runCb (s.readByte s.regs.pc) (s.setPC (s.regs.pc + 1)) = .next t := h
      rw [← exec_decodeCb] at h
      exact Effect.after_cpu { s.regs with pc := s.regs.pc + 1 } s.int.ime s.int.pipe1 s.runState (.same s rfl)
        (stores_effect (decodeCb_ne_prefix _) h)
    · cases hu
  · have e : storeSpan i s = Instr.stores i s := by cases i <;> first | rfl | exact absurd rfl hp
    rw [e]
    exact stores_effect hp h

/-! ### What follows of several bus writes -/

theorem State.writes_sameCore (ws : List (Word × Byte)) (s : State) : s.SameCore (s.writes ws) := by
  induction ws generalizing s with
  | nil => exact .refl s
  | cons x ws ih => exact (s.wrote_sameCore x.1 x.2).trans (ih _)

theorem State.writes_memWf (ws : List (Word × Byte)) {s : State} (h : s.mem.wf) : (s.writes ws).mem.wf := by
  induction ws generalizing s with
  | nil => exact h
  | cons x ws ih => exact ih (State.wrote_memWf h x.1 x.2)

theorem State.writes_cells (ws : List (Word × Byte)) {s : State} (h : ∀ c ∈ s.mem, isCell c.1 = true) :
    ∀ c ∈ (s.writes ws).mem, isCell c.1 = true := by
  induction ws generalizing s with
  | nil => exact h
  | cons x ws ih => exact ih (State.wrote_cells h x.1 x.2)

theorem State.writes_legal (ws : List (Word × Byte)) {s : State} (h : s.ppu.Legal) : (s.writes ws).ppu.Legal := by
  induction ws generalizing s with
  | nil => exact h
  | cons x ws ih => exact ih (State.wrote_legal h x.1 x.2)

theorem State.writes_rom (ws : List (Word × Byte)) (s : State) {n : Nat} (hn : n < 0x8000) :
    (s.writes ws).mem.get n = s.mem.get n := by
  induction ws generalizing s with
  | nil => rfl
  | cons x ws ih => exact (ih _).trans (s.wrote_rom x.1 x.2 hn)

theorem State.writes_outputs (ws : List (Word × Byte)) (s : State) :
    ∃ os, (s.writes ws).outputs = s.outputs ++ os := by
  induction ws generalizing s with
  | nil => exact ⟨[], (List.append_nil _).symm⟩
  | cons x ws ih =>
    obtain ⟨o1, e1⟩ := s.wrote_outputs x.1 x.2
    obtain ⟨o2, e2⟩ := ih (s.wrote x.1 x.2)
    exact ⟨o1 ++ o2, by rw [State.writes, e2, e1, List.append_assoc]⟩

/-! ### What follows of an effect -/

theorem Effect.memWf {s t : State} {span : List Word} (h : Effect s t span) (hw : s.mem.wf) : t.mem.wf := by
  obtain ⟨ws, r, i, p, run, k, -, -, -, rfl⟩ := h
  exact State.writes_memWf ws hw

theorem Effect.cells {s t : State} {span : List Word} (h : Effect s t span)
    (hw : ∀ c ∈ s.mem, isCell c.1 = true) : ∀ c ∈ t.mem, isCell c.1 = true := by
  obtain ⟨ws, r, i, p, run, k, -, -, -, rfl⟩ := h
  exact State.writes_cells ws hw

theorem Effect.legal {s t : State} {span : List Word} (h : Effect s t span) (hl : s.ppu.Legal) : t.ppu.Legal := by
  obtain ⟨ws, r, i, p, run, k, -, -, -, rfl⟩ := h
  exact State.writes_legal ws hl

theorem Effect.rom {s t : State} {span : List Word} (h : Effect s t span) {n : Nat} (hn : n < 0x8000) :
    t.mem.get n = s.mem.get n := by
  obtain ⟨ws, r, i, p, run, k, -, -, -, rfl⟩ := h
  exact State.writes_rom ws s hn

theorem Effect.outputs {s t : State} {span : List Word} (h : Effect s t span) :
    ∃ os, t.outputs = s.outputs ++ os := by
  obtain ⟨ws, r, i, p, run, k, -, -, -, rfl⟩ := h
  exact State.writes_outputs ws s

/-- F's low nibble stays zero (R21). -/
theorem Effect.fLow {s t : State} {span : List Word} (h : Effect s t span) (hf : s.regs.f &&& 0x0F = 0) :
    t.regs.f &&& 0x0F = 0 := by
  obtain ⟨ws, r, i, p, run, k, -, hr, -, rfl⟩ := h
  rcases hr with e | e
  · show r.f &&& 0x0F = 0
    rw [e]; exact hf
  · exact e

/-- The cost of an instruction (R450). -/
theorem Effect.cost {s t : State} {span : List Word} (h : Effect s t span) :
    ∃ k, GoodCost k ∧ t.cycles = s.cycles + k := by
  obtain ⟨ws, r, i, p, run, k, -, -, hk, rfl⟩ := h
  exact ⟨k, hk, rfl⟩

/-- What no instruction touches (R100, R376). -/
theorem Effect.frame {s t : State} {span : List Word} (h : Effect s t span) :
    t.hostQueue = s.hostQueue ∧ t.joy.keys = s.joy.keys ∧ t.clock = s.clock ∧ t.fault = s.fault ∧
      t.bootOverlay = s.bootOverlay ∧ t.params = s.params ∧ t.int.pipe0 = s.int.pipe0 := by
  obtain ⟨ws, r, i, p, run, k, -, -, -, rfl⟩ := h
  have c := State.writes_sameCore ws s
  exact ⟨c.hostQueue, c.keys, c.clock, c.fault, c.bootOverlay, c.params, c.pipe0⟩

/-- An instruction that stores nothing leaves the bus and its units as they are. -/
theorem Effect.silent {s t : State} (h : Effect s t []) :
    t.timer = s.timer ∧ t.joy = s.joy ∧ t.ppu = s.ppu ∧ t.mem = s.mem ∧ t.int.ie = s.int.ie ∧ t.int.if_ = s.int.if_ ∧
      t.outputs = s.outputs := by
  obtain ⟨ws, r, i, p, run, k, hs, -, -, rfl⟩ := h
  obtain rfl := List.map_eq_nil_iff.1 hs
  exact ⟨rfl, rfl, rfl, rfl, rfl, rfl, rfl⟩

end Sys2Proof.Machine
end

