-- ==== Sys2Proof/Laws/Render.lean ====
section
/-! SUPPORT. The row of pixels: what the order of the sprites of a line means for the one that shows (R417). -/

namespace Sys2Proof.Machine

@[simp] theorem renderLine_length (s : State) (y : Nat) : (renderLine s y).length = 160 := by simp [renderLine]

theorem renderLine_get (s : State) {x : Nat} (y : Nat) (h : x < 160) :
    (renderLine s y)[x]? = some (pixel s (lineSprites s y) y x) := by
  simp [renderLine, h]

/-- The first of a list that a test accepts, by X, ties by the order in the list (R417): what an insertion keeps. -/
theorem find?_insertByX (P : Sprite → Bool) (p : Sprite) (l : List Sprite)
    (hl : l.Pairwise (fun a b => a.x ≤ b.x)) :
    (insertByX p l).find? P =
      if P p then
        match l.find? P with
        | some q => if p.x < q.x then some p else some q
        | none => some p
      else l.find? P := by
  induction l with
  | nil => cases h : P p <;> simp [insertByX, h]
  | cons q qs ih =>
    have hq := List.pairwise_cons.1 hl
    by_cases hlt : p.x < q.x
    · rw [insertByX, if_pos hlt]
      cases hp : P p
      · simp [hp]
      · have hall : ∀ r, (q :: qs).find? P = some r → p.x < r.x := by
          intro r hr
          rcases List.mem_cons.1 (List.mem_of_find?_eq_some hr) with e | e
          · exact e ▸ hlt
          · exact Nat.lt_of_lt_of_le hlt (hq.1 r e)
        rw [List.find?_cons_of_pos hp, if_pos rfl]
        cases hf : (q :: qs).find? P with
        | none => rfl
        | some r => exact (if_pos (hall r hf)).symm
    · rw [insertByX, if_neg hlt]
      cases hpq : P q
      · rw [List.find?_cons_of_neg (by simp [hpq]), List.find?_cons_of_neg (by simp [hpq]), ih hq.2]
      · rw [List.find?_cons_of_pos hpq, List.find?_cons_of_pos hpq]
        cases hp : P p <;> simp [hlt]

theorem mem_insertByX {p r : Sprite} {l : List Sprite} : r ∈ insertByX p l ↔ r = p ∨ r ∈ l := by
  induction l with
  | nil => simp [insertByX]
  | cons q qs ih =>
    rw [insertByX]
    split
    · simp
    · rw [List.mem_cons, ih, List.mem_cons]
      tauto

/-- The records in order of X are the records. -/
theorem mem_byX (l acc : List Sprite) (r : Sprite) (h : r ∈ l.foldl (fun acc q => insertByX q acc) acc) :
    r ∈ l ∨ r ∈ acc := by
  induction l generalizing acc with
  | nil => exact .inr h
  | cons q l ih =>
    rcases ih _ h with e | e
    · exact .inl (List.mem_cons_of_mem _ e)
    · rcases mem_insertByX.1 e with e | e
      · exact .inl (e ▸ List.mem_cons_self)
      · exact .inr e

/-- An insertion keeps the order by X (R417). -/
theorem insertByX_sorted (p : Sprite) {l : List Sprite} (hl : l.Pairwise (fun a b => a.x ≤ b.x)) :
    (insertByX p l).Pairwise (fun a b => a.x ≤ b.x) := by
  induction l with
  | nil => simp [insertByX]
  | cons q qs ih =>
    have hq := List.pairwise_cons.1 hl
    rw [insertByX]
    split
    · rename_i h
      refine List.pairwise_cons.2 ⟨fun r hr => ?_, hl⟩
      rcases List.mem_cons.1 hr with e | e
      · exact e ▸ Nat.le_of_lt h
      · exact Nat.le_trans (Nat.le_of_lt h) (hq.1 r e)
    · rename_i h
      refine List.pairwise_cons.2 ⟨fun r hr => ?_, ih hq.2⟩
      rcases mem_insertByX.1 hr with e | e
      · exact e ▸ Nat.le_of_not_lt h
      · exact hq.1 r e

/-- The records in order of X: a record that a test accepts is found if every other accepted one lies to the right, or at
the same X behind it in the list (R417). -/
theorem find?_byX (P : Sprite → Bool) (pre post : List Sprite) (p : Sprite) (hp : P p = true)
    (hpre : ∀ q ∈ pre, P q = true → p.x < q.x) (hpost : ∀ q ∈ post, P q = true → p.x ≤ q.x) :
    ((pre ++ p :: post).foldl (fun acc q => insertByX q acc) []).find? P = some p := by
  have sorted : ∀ (l acc : List Sprite), acc.Pairwise (fun a b => a.x ≤ b.x) →
      (l.foldl (fun acc q => insertByX q acc) acc).Pairwise (fun a b => a.x ≤ b.x) := by
    intro l
    induction l with
    | nil => exact fun _ h => h
    | cons q l ih => exact fun acc h => ih _ (insertByX_sorted q h)
  have tail : ∀ (l acc : List Sprite), acc.Pairwise (fun a b => a.x ≤ b.x) → acc.find? P = some p →
      (∀ q ∈ l, P q = true → p.x ≤ q.x) → (l.foldl (fun acc q => insertByX q acc) acc).find? P = some p := by
    intro l
    induction l with
    | nil => exact fun _ _ h _ => h
    | cons q l ih =>
      intro acc hs hf hq
      refine ih _ (insertByX_sorted q hs) ?_ (fun r hr => hq r (List.mem_cons_of_mem _ hr))
      rw [find?_insertByX P q acc hs, hf]
      cases h : P q
      · rfl
      · exact (if_pos rfl).trans (if_neg (Nat.not_lt_of_le (hq q List.mem_cons_self h)))
  rw [List.foldl_append, List.foldl_cons]
  refine tail post _ (insertByX_sorted p (sorted pre [] .nil)) ?_ hpost
  rw [find?_insertByX P p _ (sorted pre [] .nil), if_pos hp]
  cases hf : (pre.foldl (fun acc q => insertByX q acc) []).find? P with
  | none => rfl
  | some q =>
    have hm : q ∈ pre := (mem_byX pre [] q (List.mem_of_find?_eq_some hf)).resolve_right (by simp)
    exact if_pos (hpre q hm (List.find?_some hf))


/-- The records of a line, by their numbers in OAM (R417): the first ten that reach it. -/
def lineNumbers (s : State) (y : Nat) : List Nat :=
  ((List.range 40).filter fun k => (sprite s k).onLine (spriteHeight s) y).take 10

theorem lineSprites_eq (s : State) (y : Nat) :
    lineSprites s y = ((lineNumbers s y).map (sprite s)).foldl (fun acc p => insertByX p acc) [] := by
  rw [lineSprites, lineNumbers, List.filter_map, ← List.map_take]
  rfl

/-- A number is among the first `m` that a test accepts if the test accepts it and fewer than `m` before it. -/
theorem mem_take_filter_range (g : Nat → Bool) (m n j : Nat) :
    j ∈ ((List.range n).filter g).take m ↔ j < n ∧ g j = true ∧ ((List.range j).filter g).length < m := by
  induction n with
  | zero => simp
  | succ n ih =>
    rw [List.range_succ, List.filter_append, List.take_append, List.mem_append, ih]
    constructor
    · rintro (⟨h1, h2⟩ | h)
      · exact ⟨Nat.lt_succ_of_lt h1, h2⟩
      · have hj := List.mem_filter.1 (List.mem_of_mem_take h)
        obtain rfl := List.mem_singleton.1 hj.1
        refine ⟨Nat.lt_succ_self _, hj.2, ?_⟩
        by_contra hc
        rw [Nat.sub_eq_zero_of_le (Nat.le_of_not_lt hc)] at h
        simp at h
    · rintro ⟨h1, h2, h3⟩
      rcases Nat.lt_succ_iff_lt_or_eq.1 h1 with h | rfl
      · exact .inl ⟨h, h2, h3⟩
      · refine .inr ?_
        rw [List.filter_cons_of_pos h2, List.filter_nil, ← Nat.sub_add_cancel (Nat.sub_pos_of_lt h3)]
        exact List.mem_cons_self

theorem lineNumbers_sorted (s : State) (y : Nat) : (lineNumbers s y).Pairwise (· < ·) :=
  ((List.pairwise_lt_range (n := 40)).filter _).sublist (List.take_sublist _ _)

theorem findSome?_eq_find? {α β : Type} (f : α → Option β) (l : List α) :
    l.findSome? f = (l.find? fun a => (f a).isSome).bind f := by
  induction l with
  | nil => rfl
  | cons a l ih =>
    cases h : f a with
    | none => rw [List.findSome?_cons_of_isNone (by simp [h]), List.find?_cons_of_neg (by simp [h]), ih]
    | some b => simp [List.findSome?, List.find?, h]

/-- No record of the line shows: none does (R417). -/
theorem topSprite_none {s : State} {x y : Nat} (h : ∀ k ∈ lineNumbers s y, spriteColour s x y (sprite s k) = none) :
    topSprite s (lineSprites s y) x y = none := by
  unfold topSprite
  split
  · rw [List.findSome?_eq_none_iff]
    intro r hr
    rw [lineSprites_eq] at hr
    obtain ⟨k, hk, rfl⟩ := List.mem_map.1 ((mem_byX _ [] r hr).resolve_right (by simp))
    exact h k hk
  · rfl

/-- The record that shows at a pixel (R417): it is of the line and not transparent there, and every other such record has
a larger X, or the same X and a larger number. -/
theorem topSprite_some {s : State} {x y k : Nat} {c : Nat × Byte} (hon : s.ppu.lcdc.getLsbD 1 = true)
    (hk : k ∈ lineNumbers s y) (hc : spriteColour s x y (sprite s k) = some c)
    (hbest : ∀ j ∈ lineNumbers s y, (spriteColour s x y (sprite s j)).isSome = true →
      (sprite s k).x < (sprite s j).x ∨ ((sprite s k).x = (sprite s j).x ∧ k ≤ j)) :
    topSprite s (lineSprites s y) x y = some c := by
  obtain ⟨pre, post, hl⟩ := List.append_of_mem hk
  have hs := lineNumbers_sorted s y
  rw [hl, List.pairwise_append] at hs
  rw [topSprite, if_pos hon, findSome?_eq_find?, lineSprites_eq, hl, List.map_append, List.map_cons,
    find?_byX _ _ _ (sprite s k) (by rw [hc]; rfl), Option.bind_some, hc]
  · intro q hq hP
    obtain ⟨j, hj, rfl⟩ := List.mem_map.1 hq
    have hlt : j < k := hs.2.2 j hj k List.mem_cons_self
    rcases hbest j (hl ▸ List.mem_append_left _ hj) hP with h | h
    · exact h
    · exact absurd h.2 (Nat.not_le_of_lt hlt)
  · intro q hq hP
    obtain ⟨j, hj, rfl⟩ := List.mem_map.1 hq
    rcases hbest j (hl ▸ List.mem_append_right _ (List.mem_cons_of_mem _ hj)) hP with h | h
    · exact Nat.le_of_lt h
    · exact Nat.le_of_eq h.1

end Sys2Proof.Machine
end

