-- ==== Sys2Proof/Laws/Step.lean ====
section
/-! SUPPORT. The phases of a step (R360): the drain comes first, and only the test of R362 writes the overlay. -/

namespace Sys2Proof.Machine

/-- Lines 1 to 3 of a step see only the drained state (R360). -/
theorem State.prepare_drain (s : State) : s.drain.prepare = s.prepare := by
  rw [State.prepare, State.prepare, State.beginStep, State.beginStep, State.drain_drain]

/-- Lines 1 to 3 of a step leave the overlay alone (R360). -/
theorem State.prepare_bootOverlay {s t : State} (h : s.prepare = .ok t) : t.bootOverlay = s.bootOverlay := by
  have hw : s.beginStep.wake.bootOverlay = s.bootOverlay := by
    obtain ⟨k, v, r, hd, -⟩ := s.drain_only
    rw [State.wake, State.beginStep, hd]
    split <;> rfl
  rcases State.takeInterrupt_inv h with rfl | ⟨i, -, -, -, hi⟩
  · exact hw
  · obtain ⟨-, -, rfl⟩ := State.dispatch_inv hi
    exact (State.wroteWord_sameCore _ _ _).bootOverlay.trans hw

/-- Lines 5 to 7 of a step leave the overlay alone (R360). -/
theorem State.endStep_bootOverlay (s : State) : s.endStep.bootOverlay = s.bootOverlay := by
  unfold State.endStep
  split
  · rfl
  · obtain ⟨d, x, v, h⟩ := State.timerAdvance_only s.cycles s
    obtain ⟨m, d', l, y, v', os, k⟩ := (s.timerAdvance s.cycles).ppuAdvance_only s.cycles
    rw [k, h]
    rfl

/-- The overlay after the test of R362. -/
theorem State.dropOverlay_eq (s : State) :
    s.dropOverlay = { s with bootOverlay := if s.regs.pc = 0x0100 then false else s.bootOverlay } := by
  unfold State.dropOverlay
  split <;> rfl

/-- A step starts with the drain, so it is the step of the drained state (R360). -/
theorem step_drain (s : State) : step s.drain = step s := by
  rw [step, step, State.drain_fault, State.prepare_drain]

end Sys2Proof.Machine
end

