-- ==== Sys2Proof/Tests/Slice0.lean ====
section
/-! SUPPORT. Tests of one step each, with the results the spec prints (files 41 to 48, 95 and 96), and for every statement
of the certificate that has hypotheses a witness that meets them, at the boundaries of their ranges. -/

namespace Sys2Proof.Tests

open Sys2Proof Sys2Proof.Machine Sys2Proof.Claims

set_option Elab.async false

/-- The start state of 95_test_vectors.md Part 2: SP 0xFFFE, pc 0xC000, everything else zero. -/
def base : State := { State.reset with regs := ⟨0, 0, 0, 0, 0, 0, 0, 0, 0xFFFE, 0xC000⟩ }

/-- The start state with its registers changed. -/
def start (f : Regs → Regs) : State := { base with regs := f base.regs }

/-- The state with bytes put at pc. -/
def State.code (s : State) (bs : List Byte) : State := s.placeBytes s.regs.pc bs

/-- The state with one storage cell written. -/
def State.put (s : State) (a : Nat) (v : Byte) : State := { s with mem := s.mem.set a v }

/-- What a step leaves of a state, if it completes. -/
def after {α : Type} (s : State) (f : State → α) : Option α :=
  match step s with
  | .next t => some (f t)
  | .fault _ => none
  | .refused _ => none

/-- The fault a step stops with. -/
def stops (s : State) : Option Fault :=
  match step s with
  | .next _ => none
  | .fault f => some f
  | .refused _ => none

/-! ### Well-formedness -/

theorem test_wf_refuses_assigned_as_illegal : (Instr.illegal 0x00).wellFormed = false := by decide
theorem test_wf_accepts_unassigned : (Instr.illegal 0xFD).wellFormed = true := by decide
theorem test_wf_refuses_bare_prefix : Instr.prefix_CB.wellFormed = false := by decide
theorem test_wf_accepts_operands : (Instr.ld_BC_nn 0xFFFF).wellFormed = true := by decide

/-! ### Decoding: words written out from the encodings of files 41 to 48 -/

theorem test_decode_load8 :
    decode [0b01000001] = .ok .ld_B_C [] ∧ decode [0b01110111] = .ok .ld_mHL_A [] ∧
    decode [0b00110110, 0xAB] = .ok (.ld_mHL_n 0xAB) [] ∧ decode [0xFA, 0x44, 0xFF] = .ok (.ld_A_mnn 0xFF44) [] ∧
    decode [0xF2] = .ok .ld_A_mC [] ∧ decode [0x22] = .ok .ld_mHLi_A [] ∧ decode [0x3A] = .ok .ld_A_mHLd [] := by decide
theorem test_decode_load16 :
    decode [0b00110001, 0xFE, 0xFF] = .ok (.ld_SP_nn 0xFFFE) [] ∧ decode [0x08, 0x00, 0xC1] = .ok (.ld_mnn_SP 0xC100) [] ∧
    decode [0b11110001] = .ok .pop_AF [] ∧ decode [0b11010101] = .ok .push_DE [] ∧
    decode [0xF8, 0x08] = .ok (.ld_HL_SPe 0x08) [] := by decide
theorem test_decode_arith :
    decode [0b10011110] = .ok .sbc_A_mHL [] ∧ decode [0b11101110, 0xFF] = .ok (.xor_n 0xFF) [] ∧
    decode [0b00101100] = .ok .inc_L [] ∧ decode [0b00110101] = .ok .dec_mHL [] ∧ decode [0b00111001] = .ok .add_HL_SP [] ∧
    decode [0xE8, 0x02] = .ok (.add_SP_e 0x02) [] ∧ decode [0x27] = .ok .daa [] := by decide
theorem test_decode_rotate_bit :
    decode [0x07] = .ok .rlca [] ∧ decode [0xCB, 0b00011011] = .ok .rr_E [] ∧ decode [0xCB, 0b00110111] = .ok .swap_A [] ∧
    decode [0xCB, 0b01111100] = .ok .bit_7_H [] ∧ decode [0xCB, 0b10111110] = .ok .res_7_mHL [] ∧
    decode [0xCB, 0b11011011] = .ok .set_3_E [] := by decide
theorem test_decode_control_system :
    decode [0b00111000, 0x02] = .ok (.jr_C_e 0x02) [] ∧ decode [0xC2, 0x00, 0xD0] = .ok (.jp_NZ_nn 0xD000) [] ∧
    decode [0xD4, 0x00, 0xD0] = .ok (.call_NC_nn 0xD000) [] ∧ decode [0b11101111] = .ok .rst_28 [] ∧
    decode [0x10, 0xA7] = .ok (.stop 0xA7) [] ∧ decode [0b01110110] = .ok .halt [] ∧
    decode [0xD3] = .ok (.illegal 0xD3) [] := by decide
theorem test_decode_rejects_by_name :
    decode [] = .reject .noOpcode ∧ decode [0x01, 0x32] = .reject (.missingImmediate 0x01) := by decide
theorem test_decode_table_words :
    decodeTableWord 8 0x01 = some (.ld_BC_nn 0x0000) ∧ decodeTableWord 16 0xCB7C = some .bit_7_H ∧
    decodeTableWord 8 0xCB = some .prefix_CB ∧ decodeTableWord 8 0xFD = some (.illegal 0xFD) := by decide
theorem test_fetch_word_runs_first :
    after (State.reset.withFetchWord 8 0x04) (fun t => (t.regs.b, t.regs.pc, t.cycles)) = some (0x01, 0x0001, 4) := by
  decide +kernel

/-! ### One step, with the results of file 95 -/

theorem test_V41_07_address_before_write :
    after (State.code (State.put (start fun r => { r with h := 0xC1 }) 0xC100 0x42) [0x6E]) (fun t => (t.regs.l, t.regs.h)) =
      some (0x42, 0xC1) := by decide +kernel
theorem test_V41_16_echo :
    after (State.code (start fun r => { r with a := 0x44, d := 0xE0, e := 0x10 }) [0x12]) (fun t => t.mem.get 0xC010) =
      some 0x44 := by decide +kernel
theorem test_V41_18_store_direct :
    after (State.code (start fun r => { r with a := 0x6F }) [0xEA, 0x34, 0xC2]) (fun t => (t.mem.get 0xC234, t.cycles)) =
      some (0x6F, 16) := by decide +kernel
theorem test_V41_22_if_reads_high_bits :
    after (State.code { base with int := { base.int with if_ := 0b00101 } } [0xF0, 0x0F]) (fun t => t.regs.a) =
      some 0xE5 := by decide +kernel
theorem test_V41_26_step_wraps :
    after (State.code (start fun r => { r with a := 0x15, h := 0xFF, l := 0xFF }) [0x22])
      (fun t => (t.int.ie, t.regs.h, t.regs.l)) = some (0x15, 0x00, 0x00) := by decide +kernel
theorem test_V41_29_step_down_wraps :
    after (State.code (State.put base 0x0000 0xC3) [0x3A]) (fun t => (t.regs.a, t.regs.h, t.regs.l)) =
      some (0xC3, 0xFF, 0xFF) := by decide +kernel
theorem test_S2_immediate_low_byte_first :
    after (State.code base [0x01, 0x32, 0x01]) (fun t => (t.regs.b, t.regs.c, t.regs.pc, t.cycles)) =
      some (0x01, 0x32, 0xC003, 12) := by decide +kernel
theorem test_V42_05_store_sp :
    after (State.code (start fun r => { r with sp := 0xFFF8 }) [0x08, 0x00, 0xC1])
      (fun t => (t.mem.get 0xC100, t.mem.get 0xC101)) = some (0xF8, 0xFF) := by decide +kernel
theorem test_V42_09_sp_plus_e :
    after (State.code (start fun r => { r with sp := 0xFFF8 }) [0xF8, 0x08]) (fun t => (t.hl, t.regs.f, t.regs.sp)) =
      some (0x0000, 0x30, 0xFFF8) := by decide +kernel
theorem test_V42_11_push_af :
    after (State.code (start fun r => { r with a := 0x9A, f := 0xB0 }) [0xF5])
      (fun t => (t.regs.sp, t.mem.get 0xFFFC, t.mem.get 0xFFFD)) = some (0xFFFC, 0xB0, 0x9A) := by decide +kernel
theorem test_V42_14_pop_af_masks :
    after (State.code (State.put (State.put (start fun r => { r with sp := 0xFFF0 }) 0xFFF0 0xFF) 0xFFF1 0x12) [0xF1])
      (fun t => (t.regs.a, t.regs.f, t.regs.sp)) = some (0x12, 0xF0, 0xFFF2) := by decide +kernel
theorem test_V43_01_add :
    after (State.code (start fun r => { r with a := 0x3A, b := 0xC6 }) [0x80]) (fun t => (t.regs.a, t.regs.f)) =
      some (0x00, 0xB0) := by decide +kernel
theorem test_V43_05_adc_carry_in :
    after (State.code (start fun r => { r with a := 0xFF, f := 0x10 }) [0x89]) (fun t => (t.regs.a, t.regs.f)) =
      some (0x00, 0xB0) := by decide +kernel
theorem test_V43_11_sub_borrow :
    after (State.code (State.put (start fun r => { r with h := 0xC1 }) 0xC100 0x01) [0x96])
      (fun t => (t.regs.a, t.regs.f, t.cycles)) = some (0xFF, 0x70, 8) := by decide +kernel
theorem test_V43_13_sbc_all_ones :
    after (State.code (start fun r => { r with d := 0xFF, f := 0x10 }) [0x9A]) (fun t => (t.regs.a, t.regs.f)) =
      some (0x00, 0xF0) := by decide +kernel
theorem test_V43_17_and :
    after (State.code (start fun r => { r with a := 0x55, b := 0xAA, f := 0x10 }) [0xA0]) (fun t => (t.regs.a, t.regs.f)) =
      some (0x00, 0xA0) := by decide +kernel
theorem test_V43_22_xor :
    after (State.code base [0xEE, 0xFF]) (fun t => (t.regs.a, t.regs.f)) = some (0xFF, 0x00) := by decide +kernel
theorem test_V43_24_or :
    after (State.code (State.put (start fun r => { r with a := 0x50, h := 0xC1 }) 0xC100 0x0A) [0xB6])
      (fun t => (t.regs.a, t.regs.f)) = some (0x5A, 0x00) := by decide +kernel
theorem test_V43_28_cp :
    after (State.code base [0xFE, 0x01]) (fun t => (t.regs.a, t.regs.f)) = some (0x00, 0x70) := by decide +kernel
theorem test_V43_29_inc_keeps_carry :
    after (State.code (start fun r => { r with b := 0x0F, f := 0x10 }) [0x04]) (fun t => (t.regs.b, t.regs.f)) =
      some (0x10, 0x30) := by decide +kernel
theorem test_V43_36_dec_memory :
    after (State.code (State.put (start fun r => { r with h := 0xC1 }) 0xC100 0x01) [0x35])
      (fun t => (t.mem.get 0xC100, t.regs.f, t.cycles)) = some (0x00, 0xC0, 12) := by decide +kernel
theorem test_V43_41_daa_after_borrow :
    after (State.code (start fun r => { r with a := 0xFF, f := 0x70 }) [0x27]) (fun t => (t.regs.a, t.regs.f)) =
      some (0x99, 0x50) := by decide +kernel
theorem test_V43_43_cpl :
    after (State.code (start fun r => { r with a := 0x35, f := 0x90 }) [0x2F]) (fun t => (t.regs.a, t.regs.f)) =
      some (0xCA, 0xF0) := by decide +kernel
theorem test_V43_44_scf :
    after (State.code (start fun r => { r with f := 0xE0 }) [0x37]) (fun t => t.regs.f) = some 0x90 := by decide +kernel
theorem test_V43_45_ccf :
    after (State.code (start fun r => { r with f := 0xF0 }) [0x3F]) (fun t => t.regs.f) = some 0x80 := by decide +kernel
theorem test_V44_01_add_hl :
    after (State.code (start fun r => { r with h := 0x8A, l := 0x23, b := 0x06, c := 0x05, f := 0x80 }) [0x09])
      (fun t => (t.hl, t.regs.f)) = some (0x9028, 0xA0) := by decide +kernel
theorem test_V44_05_inc_pair_wraps :
    after (State.code (start fun r => { r with b := 0xFF, c := 0xFF, f := 0xF0 }) [0x03]) (fun t => (t.bc, t.regs.f)) =
      some (0x0000, 0xF0) := by decide +kernel
theorem test_V44_08_dec_pair :
    after (State.code (start fun r => { r with d := 0x10 }) [0x1B]) (fun t => t.de) = some 0x0FFF := by decide +kernel
theorem test_V44_11_add_sp :
    after (State.code (start fun r => { r with sp := 0x0001 }) [0xE8, 0xFF]) (fun t => (t.regs.sp, t.regs.f)) =
      some (0x0000, 0x30) := by decide +kernel
theorem test_V45_04_rla_clears_z :
    after (State.code (start fun r => { r with a := 0x80 }) [0x17]) (fun t => (t.regs.a, t.regs.f)) =
      some (0x00, 0x10) := by decide +kernel
theorem test_V45_07_rra_carry_in :
    after (State.code (start fun r => { r with f := 0x10 }) [0x1F]) (fun t => (t.regs.a, t.regs.f)) =
      some (0x80, 0x00) := by decide +kernel
theorem test_V45_09_rlc_sets_z :
    after (State.code (start fun r => { r with f := 0x10 }) [0xCB, 0x07]) (fun t => t.regs.f) = some 0x80 := by decide +kernel
theorem test_V45_16_rr_memory :
    after (State.code (State.put (start fun r => { r with h := 0xC1, f := 0x10 }) 0xC100 0x8A) [0xCB, 0x1E])
      (fun t => (t.mem.get 0xC100, t.regs.f, t.cycles)) = some (0xC5, 0x00, 16) := by decide +kernel
theorem test_V45_19_sra_keeps_sign :
    after (State.code (start fun r => { r with l := 0x8A }) [0xCB, 0x2D]) (fun t => (t.regs.l, t.regs.f)) =
      some (0xC5, 0x00) := by decide +kernel
theorem test_V45_22_swap :
    after (State.code (start fun r => { r with a := 0xA5, f := 0x10 }) [0xCB, 0x37]) (fun t => (t.regs.a, t.regs.f)) =
      some (0x5A, 0x00) := by decide +kernel
theorem test_V46_02_bit_keeps_carry :
    after (State.code (start fun r => { r with a := 0xFE, f := 0x10 }) [0xCB, 0x47]) (fun t => (t.regs.a, t.regs.f)) =
      some (0xFE, 0xB0) := by decide +kernel
theorem test_V46_06_res :
    after (State.code (start fun r => { r with a := 0xFF, f := 0xF0 }) [0xCB, 0xBF]) (fun t => (t.regs.a, t.regs.f)) =
      some (0x7F, 0xF0) := by decide +kernel
theorem test_V46_11_set_memory :
    after (State.code (State.put (start fun r => { r with h := 0xC1 }) 0xC100 0x01) [0xCB, 0xFE])
      (fun t => (t.mem.get 0xC100, t.cycles)) = some (0x81, 16) := by decide +kernel
theorem test_V47_08_jr_to_itself :
    after (State.code base [0x18, 0xFE]) (fun t => (t.regs.pc, t.cycles)) = some (0xC000, 12) := by decide +kernel
theorem test_V47_12_jr_not_taken :
    after (State.code (start fun r => { r with pc := 0xC006, f := 0x80 }) [0x20, 0xFC]) (fun t => (t.regs.pc, t.cycles)) =
      some (0xC008, 8) := by decide +kernel
theorem test_V47_16_call :
    after (State.code base [0xCD, 0x40, 0x01])
      (fun t => (t.regs.pc, t.regs.sp, t.mem.get 0xFFFC, t.mem.get 0xFFFD, t.cycles)) =
      some (0x0140, 0xFFFC, 0x03, 0xC0, 24) := by decide +kernel
theorem test_V47_23_ret_taken :
    after (State.code (State.put (State.put (start fun r => { r with sp := 0xFFFC, f := 0x10 }) 0xFFFC 0x34) 0xFFFD 0x12)
      [0xD8]) (fun t => (t.regs.pc, t.regs.sp, t.cycles)) = some (0x1234, 0xFFFE, 20) := by decide +kernel
theorem test_V47_24_reti :
    after (State.code (State.put (State.put (start fun r => { r with sp := 0xFFFC }) 0xFFFC 0x03) 0xFFFD 0xC1) [0xD9])
      (fun t => (t.regs.pc, t.int.ime)) = some (0xC103, true) := by decide +kernel
theorem test_V47_27_rst :
    after (State.code base [0xEF]) (fun t => (t.regs.pc, t.mem.get 0xFFFC, t.cycles)) = some (0x0028, 0x01, 16) := by
  decide +kernel
theorem test_V48_04_stop_any_pad :
    after (State.code base [0x10, 0xA7]) (fun t => (t.runState, t.regs.pc, t.timer.div)) =
      some (.stopped, 0xC002, 0x0000) := by decide +kernel
theorem test_V48_05_di_is_delayed :
    after (State.code { base with int := { base.int with ime := true } } [0xF3]) (fun t => (t.int.ime, t.int.pipe0)) =
      some (true, .clear) := by decide +kernel
theorem test_V48_12_unassigned :
    stops (State.code base [0xD3]) = some (.decodeFailure 0xC000 0xD3) := by decide +kernel

/-! ### The units, with the results of file 96 -/

theorem test_V60_02_line_zero_wins :
    after (State.code { base with int := ⟨true, .none, .none, 0b11111, 0x1F⟩ } [0x00])
      (fun t => (t.regs.pc, t.regs.sp, t.int.ime, t.int.if_, t.mem.get 0xFFFD, t.cycles)) =
      some (0x0041, 0xFFFC, false, 0b11110, 0xC0, 24) := by decide +kernel
theorem test_V60_12_halt_wakes_without_ime :
    after (State.code { base with runState := .halted, int := ⟨false, .none, .none, 0b00100, 0x04⟩ } [0x00])
      (fun t => (t.runState, t.regs.pc, t.int.if_)) = some (.running, 0xC001, 0b00100) := by decide +kernel
theorem test_V61_04_div_write_clears :
    after (State.code { start (fun r => { r with a := 0x77 }) with timer := ⟨0xAB12, 0, 0, 0⟩ } [0xE0, 0x04])
      (fun t => t.timer.div) = some 0x000C := by decide +kernel
theorem test_V61_19_two_edges :
    after (State.code { base with timer := ⟨0x0000, 0, 0, 0b101⟩, int := ⟨true, .none, .none, 0b00001, 0x01⟩ } [0x00])
      (fun t => (t.timer.tima, t.timer.div)) = some (0x02, 0x0018) := by decide +kernel
theorem test_V63_02_buttons :
    after (State.code { base with joy := ⟨0b01, (Keys.empty.put .a true).put .start true⟩ } [0xF0, 0x00])
      (fun t => t.regs.a) = some 0xD6 := by decide +kernel
theorem test_V63_10_key_interrupt :
    after (State.code { base with hostQueue := [.keyDown .start], int := ⟨true, .none, .none, 0, 0x10⟩ } [0x00])
      (fun t => (t.regs.pc, t.int.if_, t.joy.keys.held .start)) = some (0x0061, 0, true) := by decide +kernel
theorem test_V62_08_vertical_blank :
    after (State.code { base with
        ppu := { base.ppu with lcdc := 0x80, mode := .hBlank, dot := 200, line := 143, ly := 0x8F, statSel := 0b0010 } }
        [0x00])
      (fun t => (t.ppu.mode, t.ppu.line, t.ppu.ly, t.int.if_, t.outputs)) =
      some (.vBlank, 144, 0x90, 0b00011, [.frameComplete]) := by decide +kernel
theorem test_V62_23_video_ram_hidden :
    after (State.code (State.put
        { start (fun r => { r with h := 0x80 }) with ppu := { base.ppu with lcdc := 0x80, mode := .pixelTransfer } }
        0x8000 0x55) [0x7E]) (fun t => t.regs.a) = some 0xFF := by decide +kernel
theorem test_V64_14_unmapped_write :
    stops (State.code { start (fun r => { r with a := 0x01 }) with params := ⟨none, true, false⟩ } [0xE0, 0x50]) =
      some (.busUnmapped 0xFF50 .write) := by decide +kernel
theorem test_V64_22_dma_is_a_plain_register :
    after (State.code (start fun r => { r with a := 0xC1 }) [0xE0, 0x46]) (fun t => (t.ppu.dma, t.mem.get 0xFE00)) =
      some (0xC1, 0x00) := by decide +kernel
theorem test_boot_overlay_dropped :
    after (State.code { start (fun r => { r with pc := 0x0100 }) with
        bootOverlay := true, params := ⟨some [(0, 0x3E)], false, false⟩, mem := [(0, 0xAA)] } [0xFA, 0x00, 0x00])
      (fun t => (t.regs.a, t.bootOverlay)) = some (0xAA, false) := by decide +kernel

/-! ### Witnesses: the hypotheses of each statement can be met -/

/-- The start state with BUS_STRICT, HL 0xFFFF, BC 0x0000, DE 0x9FFF and SP 0xFFFE. -/
def strict : State :=
  { start (fun r => { r with h := 0xFF, l := 0xFF, d := 0x9F, e := 0xFF }) with params := ⟨none, true, false⟩ }

theorem witness_DecodeOfEncode :
    (Instr.jr_e 0x80).wellFormed = true ∧ (Instr.illegal 0xD3).wellFormed = true ∧ Instr.set_7_A.wellFormed = true := by
  decide +kernel
theorem witness_EncodeOfDecode :
    decode [0xCB, 0xFF, 0x12] = .ok .set_7_A [0x12] ∧ decode [0xCB] = .ok .prefix_CB [] ∧
      decode [0xC3, 0xFF, 0xFF] = .ok (.jp_nn 0xFFFF) [] := by decide +kernel
theorem witness_UnassignedOpcodes : decodeOp 0xD3 0x00 0x00 = .illegal 0xD3 := by decide +kernel
theorem witness_StepRunsDecoded :
    base.fault = none ∧ base.prepare = .ok base ∧ base.runState = .running ∧ decode [0x01, 0x32, 0x01] =
      .ok (.ld_BC_nn 0x0132) [] ∧ (Instr.ld_BC_nn 0x0132).wellFormed = true ∧
    (State.code base [0x01, 0x32, 0x01]).prepare = .ok (State.code base [0x01, 0x32, 0x01]) ∧
    (State.code base [0x01, 0x32, 0x01]).bytesAt 0xC000 [0x01, 0x32, 0x01] := by
  refine ⟨rfl, rfl, rfl, by decide +kernel, by decide +kernel, rfl, rfl, rfl, rfl, trivial⟩
/-- The last step of a boot ROM: pc is 0x0100, the overlay is on, and the ROM holds a NOP there. -/
def handOver : State :=
  { base with bootOverlay := true, params := ⟨some [], false, false⟩, regs := { base.regs with pc := 0x0100 } }
theorem witness_StepRunsDecoded_overlay :
    handOver.prepare = .ok handOver ∧ handOver.runState = .running ∧ handOver.regs.pc = 0x0100 ∧
    ({ handOver with bootOverlay := false } : State).bytesAt 0x0100 [0x00] ∧ decode [0x00] = .ok .nop [] ∧
    handOver.bootOverlay = true := by
  refine ⟨rfl, rfl, rfl, ⟨rfl, trivial⟩, rfl, rfl⟩
theorem test_overlay_removed_at_0x0100 : (after handOver fun t => t.bootOverlay) = some false := by decide +kernel
theorem test_overlay_kept_elsewhere :
    (after { handOver with regs := { base.regs with pc := 0x00FF } } fun t => (t.bootOverlay, t.regs.pc)) =
      some (true, 0x0100) := by decide +kernel
theorem witness_PcAdvancesByLength :
    (State.code base [0x20, 0x05]).fetchInstr = .ok (.jr_NZ_e 0x05, (State.code base [0x20, 0x05]).setPC 0xC002) ∧
    (let s2 := (State.code (start fun r => { r with f := 0x80 }) [0x20, 0x05]).setPC 0xC002
     exec (.jr_NZ_e 0x05) s2 = .next (s2.charge 8) ∧ takesBranch (.jr_NZ_e 0x05) s2 = false) :=
  ⟨rfl, rfl, rfl⟩
theorem witness_LoadFromMemory :
    strict.answers strict.hl = true ∧ strict.answers strict.bc = true ∧ strict.answers strict.de = true ∧
    strict.answers 0xC000 = true ∧ strict.answers (highAddr 0x0F) = true ∧ strict.answers (highAddr 0x80) = true ∧
    strict.answers (highAddr strict.regs.c) = true := by decide +kernel
theorem witness_StoreByte :
    strict.answers strict.hl = true ∧ strict.answers strict.bc = true ∧ strict.answers strict.de = true ∧
    strict.answers 0xFFFF = true ∧ strict.answers (highAddr 0x40) = true ∧ strict.answers (highAddr 0xFF) = true ∧
    strict.answers (highAddr strict.regs.c) = true := by decide +kernel
theorem witness_StackStores :
    strict.answers 0xFFFF = true ∧ strict.answers (0xFFFF + 1) = true ∧ strict.answers (strict.regs.sp - 2) = true ∧
    strict.answers (strict.regs.sp - 1) = true := by decide +kernel
theorem witness_PopPair : strict.answers strict.regs.sp = true ∧ strict.answers (strict.regs.sp + 1) = true := by decide +kernel
theorem witness_PushThenPop :
    base.mem.wf ∧ ([(0xC002 : Word), 0xE000, 0xFE00, 0xFF82, 0xFFFF].all fun sp =>
      decide (0xC002 ≤ (base.setSP sp).regs.sp.toNat ∧ ((base.setSP sp).regs.sp.toNat ≤ 0xFE00 ∨
        (0xFF82 ≤ (base.setSP sp).regs.sp.toNat ∧ (base.setSP sp).regs.sp.toNat ≤ 0xFFFF)))) = true := by decide +kernel
theorem witness_AddSubLogic : (AluOp.sub = .add ∨ AluOp.sub = .sub ∨ AluOp.sub = .and ∨ AluOp.sub = .xor ∨ AluOp.sub = .or) ∧
    strict.answers strict.hl = true := by decide +kernel
theorem witness_CarryAndCompare : (AluOp.cp = .adc ∨ AluOp.cp = .sbc ∨ AluOp.cp = .cp) ∧ strict.answers strict.hl = true := by
  decide +kernel
theorem witness_IncDec : strict.answers strict.hl = true := by decide +kernel
theorem witness_DecimalSumAndDifference :
    (start fun r => { r with a := 0x99, f := 0x10 }).regs.a = bcd 99 ∧ bcd 0 = 0x00 ∧
    (∃ t u, exec (.adc_A_n (bcd 99)) (start fun r => { r with a := 0x99, f := 0x10 }) = .next t ∧ exec .daa t = .next u) ∧
    (∃ t u, exec (.sbc_A_n (bcd 99)) (start fun r => { r with a := 0x00, f := 0x10 }) = .next t ∧ exec .daa t = .next u) :=
  ⟨by decide +kernel, by decide +kernel, ⟨_, _, rfl, rfl⟩, ⟨_, _, rfl, rfl⟩⟩
theorem witness_PrefixedRotates :
    (RotOp.rr = .rlc ∨ RotOp.rr = .rrc ∨ RotOp.rr = .rl ∨ RotOp.rr = .rr) ∧ strict.answers strict.hl = true := by decide +kernel
theorem witness_ShiftsAndSwap :
    (RotOp.swap = .sla ∨ RotOp.swap = .sra ∨ RotOp.swap = .srl ∨ RotOp.swap = .swap) ∧ strict.answers strict.hl = true := by
  decide +kernel
theorem witness_BitInstructions : strict.answers strict.hl = true := by decide +kernel
theorem witness_Calls :
    strict.answers (strict.regs.sp - 2) = true ∧ strict.answers (strict.regs.sp - 1) = true ∧ strict.holds .nz = true ∧
    strict.holds .z = false := by decide +kernel
theorem witness_Returns :
    strict.answers strict.regs.sp = true ∧ strict.answers (strict.regs.sp + 1) = true ∧ strict.holds .nc = true ∧
    strict.holds .c = false := by decide +kernel
theorem witness_PrefixRunsPair :
    strict.answers strict.regs.pc = true ∧ (strict.setPC (strict.regs.pc + 1)).answers strict.hl = true := by decide +kernel
theorem witness_UnassignedFaults :
    ({ base with fault := some (.decodeFailure 0xC000 0xD3) } : State).fault = some (.decodeFailure 0xC000 0xD3) := rfl
theorem witness_RequestOneLine : (0 : Nat) < 5 ∧ (4 : Nat) < 5 := by decide +kernel
theorem witness_TakeInterrupt :
    let s : State := { strict with runState := .halted, int := ⟨true, .none, .none, 0b10000, 0x10⟩ }
    s.hostQueue = [] ∧ s.runState ≠ .stopped ∧ s.int.ime = true ∧ leastLine s.pending = some 4 ∧
    s.answers (s.regs.sp - 2) = true ∧ s.answers (s.regs.sp - 1) = true := by decide +kernel
theorem witness_NoInterrupt :
    base.hostQueue = [] ∧ base.int.ime = false ∧ base.pending = 0 ∧
    ({ base with runState := .stopped } : State).runState = .stopped := by decide +kernel
/-- Slot 0 empty, and slot 0 occupied by the request of an EI just before the DI. -/
theorem witness_ImeLatency :
    (∃ t u, exec .di base = .next t ∧ exec .reti t.imeRetire = .next u) ∧
    (∃ t u, exec .ei base = .next t ∧ exec .di t.imeRetire = .next u) ∧
    (let s : State := { base with int := { base.int with pipe0 := .set } }
     ∃ t u, exec .di s = .next t ∧ exec .nop t.imeRetire = .next u) := by
  refine ⟨⟨_, _, rfl, rfl⟩, ⟨_, _, rfl, rfl⟩, ⟨_, _, rfl, rfl⟩⟩
/-- DI right after EI: the EI acts at the retirement of the DI, the DI at that of the instruction behind it (R376). -/
theorem test_ei_di_nop :
    let s : State := State.code base [0xFB, 0xF3, 0x00]
    (after s fun t => (t.int.ime, after t fun u => (u.int.ime, after u fun v => v.int.ime))) =
      some (false, some (true, some false)) := by decide +kernel
theorem witness_IdleSteps :
    base.fault = none ∧ base.hostQueue = [] ∧ ({ base with runState := .halted } : State).runState = .halted ∧
    base.pending = 0 ∧ ({ base with runState := .stopped } : State).runState = .stopped := by decide +kernel
theorem witness_KeyEvents :
    let s := fun (e : HostEvent) (k : Keys) => ({ base with hostQueue := [e, .keyUp .a], joy := ⟨0, k⟩ } : State)
    ((s (.keyDown .up) Keys.empty).hostQueue = .keyDown .up :: [.keyUp .a] ∧
      (s (.keyDown .up) Keys.empty).joy.keys.held .up = false) ∧
    ((s (.keyDown .up) (Keys.empty.put .up true)).hostQueue = .keyDown .up :: [.keyUp .a] ∧
      (s (.keyDown .up) (Keys.empty.put .up true)).joy.keys.held .up = true) ∧
    (s (.keyUp .up) Keys.empty).hostQueue = .keyUp .up :: [.keyUp .a] ∧ base.hostQueue = [] ∧ (3 : Nat) < 4 := by
  decide +kernel
/-- A press and release posted before one step leaves the key up and the request latched (R395). -/
theorem test_key_press_and_release :
    (after { base with int := { base.int with ie := 0x10 }, hostQueue := [.keyDown .a, .keyUp .a] } fun t =>
      (t.joy.keys.held .a, t.int.if_)) = some (false, 0b10000) := by decide +kernel
/-- No edge from 0x0008 or from the top of the counter; an edge from 0x0007 and from 0xFFF7. -/
theorem witness_TimerCycle :
    let s := fun (d : BitVec 16) (x : Byte) => ({ base with timer := ⟨d, x, 0x10, 0b101⟩ } : State)
    let edge := fun t : State => t.timer.tac.toNat ≥ 4 ∧ t.timer.tac.toNat % 4 = 1 ∧ bit t.timer.div.toNat 3 = 0 ∧
      bit ((t.timer.div.toNat + 1) % 65536) 3 = 1
    ¬ edge (s 0x0008 0x00) ∧ ¬ edge (s 0xFFFF 0xFF) ∧ (edge (s 0x0007 0xFE) ∧ (s 0x0007 0xFE).timer.tima ≠ 0xFF) ∧
    (edge (s 0xFFF7 0xFF) ∧ (s 0xFFF7 0xFF).timer.tima = 0xFF) := by decide +kernel
theorem witness_TimerCounts :
    let s := fun (d : BitVec 16) (x : Byte) (k : BitVec 3) => ({ base with timer := ⟨d, x, 0x10, k⟩ } : State)
    (s 0x0004 0xFE 0b011).timer.tac.getLsbD 2 = false ∧ (s 0x0004 0xFE 0b101).timer.tac.getLsbD 2 = true ∧
    (s 0x0004 0xFE 0b101).timer.tima.toNat + risingEdges (selBit 0b101) (s 0x0004 0xFE 0b101).timer.div.toNat 19 < 256 ∧
    risingEdges (selBit 0b101) 0x0004 19 = 1 ∧ risingEdges (selBit 0b101) 0x0004 20 = 2 := by decide +kernel
theorem witness_PpuTransitions :
    let s := fun (m : PpuMode) (d l : Nat) =>
      ({ base with ppu := { base.ppu with lcdc := 0x80, mode := m, dot := d, line := l } } : State)
    (s .vBlank 452 153).ppu.lcdc.getLsbD 7 = true ∧ (s .vBlank 452 153).ppu.line < 154 ∧ 0 < 4 ∧
    ((s .oamSearch 76 0).ppu.mode = .oamSearch ∧ (s .oamSearch 76 0).ppu.dot + 4 = 80) ∧
    ((s .pixelTransfer 168 0).ppu.mode = .pixelTransfer ∧ (s .pixelTransfer 168 0).ppu.dot + 4 = 172) ∧
    ((s .hBlank 200 142).ppu.dot + 4 = 204 ∧ (s .hBlank 200 142).ppu.line ≠ 143) ∧
    ((s .hBlank 200 143).ppu.dot + 4 = 204 ∧ (s .hBlank 200 143).ppu.line = 143) ∧
    ((s .vBlank 452 152).ppu.dot + 4 = 456 ∧ (s .vBlank 452 152).ppu.line ≠ 153) ∧
    ((s .vBlank 452 153).ppu.dot + 4 = 456 ∧ (s .vBlank 452 153).ppu.line = 153) := by decide +kernel
theorem base_ppu_legal : base.ppu.Legal :=
  ⟨by decide +kernel, by decide +kernel, by decide +kernel, .inl (by decide +kernel), fun _ => ⟨rfl, rfl, rfl, rfl⟩⟩
theorem witness_PpuAdvanceAdds : base.ppu.Legal := base_ppu_legal
theorem witness_FrameTiming :
    let s : State := { base with ppu := { base.ppu with lcdc := 0x80 } }
    s.ppu.lcdc.getLsbD 7 = true ∧ s.ppu.mode = .oamSearch ∧ s.ppu.dot = 0 ∧ s.ppu.line = 0 := by decide +kernel
theorem witness_LcdSwitch :
    base.ppu.lcdc.getLsbD 7 = false ∧ (0x80 : Byte).getLsbD 7 = true ∧ (0x7F : Byte).getLsbD 7 = false ∧
    base.ppu.lcdc.getLsbD 7 = (0x7F : Byte).getLsbD 7 ∧ base.ppu.Legal := by
  refine ⟨by decide +kernel, by decide +kernel, by decide +kernel, by decide +kernel, base_ppu_legal⟩
theorem witness_RenderedRow : base.ppu.lcdc.getLsbD 1 = false ∧ (0 : Nat) < 160 ∧ (159 : Nat) < 160 := by decide +kernel
/-- One row of tile 1 is index 1 at its left pixel and 0 elsewhere; records 0 and 3 put it at column 0 of line 0. -/
def sprites (lcdc : Byte) : State :=
  { base with
    ppu := { base.ppu with lcdc := lcdc, bgp := 0x1B, obp0 := 0xE4 },
    mem := [(0x8010, 0x80), (0xFE00, 16), (0xFE01, 8), (0xFE02, 1), (0xFE0C, 16), (0xFE0D, 8), (0xFE0E, 1)] }
theorem witness_SpritePixel :
    (sprites 0x93).ppu.lcdc.getLsbD 1 = true ∧ chosen (sprites 0x93) 0 0 ∧ spriteIndex (sprites 0x93) 0 0 0 ≠ 0 ∧
    spriteIndex (sprites 0x93) 0 0 3 ≠ 0 ∧
    (∀ j : Nat, chosen (sprites 0x93) 0 j → spriteIndex (sprites 0x93) 0 0 j ≠ 0 →
      (oamByte (sprites 0x93) 0 1).toNat < (oamByte (sprites 0x93) j 1).toNat ∨
        (oamByte (sprites 0x93) 0 1 = oamByte (sprites 0x93) j 1 ∧ 0 ≤ j)) ∧
    (∀ k : Nat, chosen (sprites 0x93) 0 k → spriteIndex (sprites 0x93) 1 0 k = 0) := by
  have tie : ∀ j : Nat, j < 40 → spriteIndex (sprites 0x93) 0 0 j ≠ 0 →
      oamByte (sprites 0x93) 0 1 = oamByte (sprites 0x93) j 1 := by decide +kernel
  have clear : ∀ k : Nat, k < 40 → spriteIndex (sprites 0x93) 1 0 k = 0 := by decide +kernel
  exact ⟨by decide +kernel, ⟨by decide +kernel, by decide +kernel, by decide +kernel⟩, by decide +kernel, by decide +kernel,
    fun j hj hne => .inr ⟨tie j hj.1 hne, Nat.zero_le j⟩, fun k hk => clear k hk.1⟩
/-- By hand from R414 and R417: the sprite is shade 1 of OBP0, beside it index 0 is shade 3 of BGP; sprites off shows BGP. -/
theorem test_sprite_pixel :
    (renderLine (sprites 0x93) 0)[0]? = some 1 ∧ (renderLine (sprites 0x93) 0)[1]? = some 3 ∧
    (renderLine (sprites 0x91) 0)[0]? = some 3 := by decide +kernel
/-- By hand from R415: map 0x9800 names tile 1 of set 1 at column 0; scrolled by one the pixel moves to column 255. -/
theorem test_background_pixel :
    let s : State := { sprites 0x91 with mem := [(0x8010, 0x80), (0x8011, 0x80), (0x9800, 1)] }
    (renderLine s 0)[0]? = some 0 ∧ (renderLine s 0)[1]? = some 3 ∧
    (renderLine { s with ppu := { s.ppu with scx := 1 } } 0)[0]? = some 3 := by decide +kernel
/-- The first and last address of every region without a gate; the overlay off, and on above 0x00FF. -/
theorem witness_PlainRegions :
    base.bootOverlay = false ∧ (0x0000 : Word).toNat < 0x8000 ∧ 0x0100 ≤ (0x0100 : Word).toNat ∧
    (0x7FFF : Word).toNat < 0x8000 ∧ 0xC000 ≤ (0xC000 : Word).toNat ∧ (0xDFFF : Word).toNat < 0xE000 ∧
    0xE000 ≤ (0xE000 : Word).toNat ∧ (0xFDFF : Word).toNat < 0xFE00 ∧ 0xFF80 ≤ (0xFF80 : Word).toNat ∧
    (0xFFFE : Word).toNat < 0xFFFF ∧ (0xFFFF : Word).toNat = 0xFFFF := by decide +kernel
/-- The first and last address of every switched region; the overlay on with a boot ROM present. -/
theorem witness_GatedRegions :
    let s : State := { base with bootOverlay := true, params := ⟨some [], true, true⟩ }
    s.bootOverlay = true ∧ s.params.boot = some [] ∧ s.params.extRam = true ∧ (0x00FF : Word).toNat < 0x0100 ∧
    0x8000 ≤ (0x8000 : Word).toNat ∧ (0x9FFF : Word).toNat < 0xA000 ∧ 0xFE00 ≤ (0xFE00 : Word).toNat ∧
    (0xFE9F : Word).toNat < 0xFEA0 ∧ 0xA000 ≤ (0xA000 : Word).toNat ∧ (0xBFFF : Word).toNat < 0xC000 ∧
    0xFEA0 ≤ (0xFEA0 : Word).toNat ∧ (0xFEFF : Word).toNat < 0xFF00 := by decide +kernel
theorem witness_RamReadsBack :
    base.mem.wf ∧ ([(0xC000 : Word), 0xDDFF, 0xDE00, 0xE000, 0xFDFF, 0xFF80, 0xFFFE].all fun a =>
      decide ((0xC000 ≤ a.toNat ∧ a.toNat < 0xFE00) ∨ (0xFF80 ≤ a.toNat ∧ a.toNat < 0xFFFF))) = true ∧
    cellOf 0xE000 ≠ cellOf 0xC001 ∧ cellOf 0xE000 = cellOf 0xC000 := by decide +kernel
theorem witness_UnmappedAccess :
    mapped strict.params.extRam 0xA000 = false ∧ mapped strict.params.extRam 0xBFFF = false ∧
    mapped strict.params.extRam 0xFF7F = false ∧ mapped strict.params.extRam 0xFF01 = false ∧
    strict.params.busStrict = true ∧ base.params.busStrict = false ∧ mapped strict.params.extRam 0xFF4B = true ∧
    mapped true 0xA000 = true := by decide +kernel
theorem witness_IoRegisters :
    0xFF00 ≤ (0xFF00 : Word).toNat ∧ (0xFF7F : Word).toNat < 0xFF80 ∧ (0xFF05 : Word) ≠ ioAddress .div ∧
    IoReg.div ≠ .lcdc := by decide +kernel
theorem witness_StoredBytesOnly :
    exec .ld_mBC_A (start fun r => { r with b := 0xC1 }) =
      .next (((start fun r => { r with b := 0xC1 }).wrote 0xC100 0x00).charge 8) ∧
    storeSpan .ld_mBC_A (start fun r => { r with b := 0xC1 }) = [0xC100] ∧ cellOf 0xC100 ≠ cellOf 0xC101 ∧
    (0xC100 : Word) ≠ 0xFF40 := by
  refine ⟨rfl, by decide +kernel, by decide +kernel, by decide +kernel⟩
theorem witness_FlagFrame :
    exec .inc_B base = .next (withF (base.setReg .b 0x01) 0x00 4) ∧ (writesFlags .inc_B).c = false ∧
    (writesFlags .add_HL_BC).z = false ∧ (writesFlags .daa).n = false ∧ (writesFlags .nop).h = false := by
  refine ⟨rfl, by decide +kernel, by decide +kernel, by decide +kernel, by decide +kernel⟩
theorem witness_EveryInstructionCompletes :
    (∀ op, Instr.nop ≠ .illegal op) ∧ base.params.busStrict = false := ⟨fun _ h => (nomatch h), by decide +kernel⟩
theorem witness_InstructionFrame : exec .nop base = .next (base.charge 4) ∧ storeSpan .nop base = [] := ⟨rfl, rfl⟩
theorem witness_StepAccounts : (after base fun t => (t.cycles, t.clock)) = some (4, 4) ∧ base.bootOverlay = false := by
  decide +kernel
theorem witness_StartConfigurations :
    ({ boot := some [], skipBoot := false } : Launch).skipBoot = false ∧ ({ skipBoot := true } : Launch).skipBoot = true :=
  ⟨rfl, rfl⟩
theorem witness_InvAtReset :
    ({ mem := [(0x0000, 0x01), (0xFFFE, 0x02)] } : Launch).mem.wf ∧
    (∀ c ∈ ({ mem := [(0x0000, 0x01), (0xFFFE, 0x02)] } : Launch).mem, isCell c.1 = true) := by decide +kernel
theorem base_inv : base.Inv :=
  ⟨by decide +kernel, by decide +kernel, by decide +kernel, base_ppu_legal, by decide +kernel⟩
theorem witness_StepKeepsInv : base.Inv ∧ (after base fun t => t.regs.pc) = some 0xC001 :=
  ⟨base_inv, by decide +kernel⟩

end Sys2Proof.Tests
end

section
/-! PROOF. What a completed step costs and keeps: an account kept over the phases of R360, and what it adds up to. -/

namespace Sys2Proof.Machine

/-! ### The account of a phase -/

/-- From `s` to `t` a part of a step charged `k` cycles. It left the clock, the queue, the fault, the ROM and the
parameters alone, did not bring the overlay back and only added outputs (R7, R49, R55, R76, R411). -/
structure State.Spends (s : State) (k : Nat) (t : State) : Prop where
  cycles : t.cycles = s.cycles + k
  clock : t.clock = s.clock
  hostQueue : t.hostQueue = s.hostQueue
  fault : t.fault = s.fault
  rom : ∀ a < 0x8000, t.mem.get a = s.mem.get a
  params : t.params = s.params
  overlay : s.bootOverlay = false → t.bootOverlay = false
  outputs : ∃ os, t.outputs = s.outputs ++ os

theorem State.Spends.trans {s t u : State} {k n : Nat} (h : s.Spends k t) (h' : t.Spends n u) :
    s.Spends (k + n) u where
  cycles := by rw [h'.cycles, h.cycles, Nat.add_assoc]
  clock := h'.clock.trans h.clock
  hostQueue := h'.hostQueue.trans h.hostQueue
  fault := h'.fault.trans h.fault
  rom a ha := (h'.rom a ha).trans (h.rom a ha)
  params := h'.params.trans h.params
  overlay ho := h'.overlay (h.overlay ho)
  outputs := by
    obtain ⟨os, e⟩ := h.outputs
    obtain ⟨os', e'⟩ := h'.outputs
    exact ⟨os ++ os', by rw [e', e, List.append_assoc]⟩

/-- Writing registers, the interrupt controller and the run state, and charging cycles. -/
theorem State.Spends.cpu (s : State) (r : Regs) (c : IntCtl) (run : RunState) (k : Nat) :
    s.Spends k { s with regs := r, int := c, runState := run, cycles := s.cycles + k } :=
  ⟨rfl, rfl, rfl, rfl, fun _ _ => rfl, rfl, id, [], (List.append_nil _).symm⟩

theorem State.Spends.refl (s : State) : s.Spends 0 s := .cpu s s.regs s.int s.runState 0

/-! ### The phases (R360) -/

theorem State.wrote_spends (s : State) (a : Word) (v : Byte) : s.Spends 0 (s.wrote a v) :=
  have c := s.wrote_sameCore a v
  { cycles := c.cycles, clock := c.clock, hostQueue := c.hostQueue, fault := c.fault, params := c.params
    rom := fun _ hn => s.wrote_rom a v hn
    overlay := c.bootOverlay.trans
    outputs := s.wrote_outputs a v }

theorem State.wroteWord_spends (s : State) (a v : Word) : s.Spends 0 (s.wroteWord a v) :=
  (s.wrote_spends a (lo v)).trans (State.wrote_spends _ (a + 1) (hi v))

/-- Line 2 of R360: a wake writes only the run state. -/
theorem State.wake_spends (s : State) : s.Spends 0 s.wake := by
  unfold State.wake
  split
  · exact .cpu s s.regs s.int .running 0
  · exact .refl s

/-- A dispatch charges 20 cycles (R373). -/
theorem State.dispatch_spends {s t : State} {i : Nat} (h : s.dispatch i = .ok t) : s.Spends 20 t := by
  obtain ⟨-, -, rfl⟩ := State.dispatch_inv h
  have before : s.Spends 0 (((s.resetInterrupt i).setIme false).setSP (s.regs.sp - 2)) := .cpu s _ _ _ 0
  have pushed := before.trans (State.wroteWord_spends _ (s.regs.sp - 2) s.regs.pc)
  exact pushed.trans (.cpu _ _ _ _ 20)

/-- Line 3 of R360: the check charges nothing, or the 20 cycles of one dispatch. -/
theorem State.takeInterrupt_spends {s t : State} (h : s.takeInterrupt = .ok t) :
    ∃ k, (k = 0 ∨ k = 20) ∧ s.Spends k t := by
  rcases State.takeInterrupt_inv h with rfl | ⟨i, -, -, -, hi⟩
  · exact ⟨0, .inl rfl, .refl _⟩
  · exact ⟨20, .inr rfl, State.dispatch_spends hi⟩

/-- The test of R362 only takes the overlay away. -/
theorem State.dropOverlay_spends (s : State) : s.Spends 0 s.dropOverlay := by
  rw [State.dropOverlay_eq]
  refine ⟨rfl, rfl, rfl, rfl, fun _ _ => rfl, rfl, fun ho => ?_, [], (List.append_nil _).symm⟩
  show (if s.regs.pc = 0x0100 then false else s.bootOverlay) = false
  rw [ho, ite_self]

/-- A fetch moves pc only (R121). -/
theorem State.fetchInstr_spends {s t : State} {i : Instr} (h : s.fetchInstr = .ok (i, t)) : s.Spends 0 t := by
  obtain ⟨v, rfl⟩ := State.fetchInstr_inv h
  exact .cpu s _ _ _ 0

/-- An instruction charges the cycles of R450, from 4 to 24. -/
theorem exec_spends {i : Instr} {s t : State} (h : exec i s = .next t) : ∃ k, GoodCost k ∧ s.Spends k t := by
  have e := exec_effect h
  obtain ⟨k, hk, hc⟩ := e.cost
  obtain ⟨hq, -, hcl, hf, ho, hp, -⟩ := e.frame
  exact ⟨k, hk, hc, hcl, hq, hf, fun _ ha => e.rom ha, hp, ho.trans, e.outputs⟩

theorem State.imeRetire_spends (s : State) : s.Spends 0 s.imeRetire := .cpu s _ _ _ 0

theorem State.idle_spends (s : State) : s.Spends 4 s.idle := .cpu s _ _ _ 4

/-- Line 1 of R360: the queue is drained and the count of cycles starts at zero; the rest is as it was but for the keys,
IF and the run state (R395). -/
theorem State.beginStep_only (s : State) :
    ∃ k v r, s.beginStep = { s.withHost k v r with hostQueue := [], cycles := 0 } := by
  obtain ⟨k, v, r, h, -⟩ := s.drain_only
  exact ⟨k, v, r, by rw [State.beginStep, h]⟩

/-- Lines 5 to 7 of R360: timer and PPU write their own parts and IF, the PPU adds outputs, and the clock takes the
cycles of the step (R55, R386, R411). -/
theorem State.endStep_only (s : State) :
    ∃ x p c os, s.endStep =
      { s with timer := x, ppu := p, int := c, outputs := s.outputs ++ os, clock := s.clock + s.cycles } := by
  unfold State.endStep
  split
  · exact ⟨s.timer, s.ppu, s.int, [], by rw [List.append_nil]; rfl⟩
  · obtain ⟨d, x, v, ht⟩ := State.timerAdvance_only s.cycles s
    obtain ⟨m, dot, line, ly, v', os, hp⟩ := (s.timerAdvance s.cycles).ppuAdvance_only s.cycles
    rw [hp, ht]
    exact ⟨_, _, _, os, rfl⟩

/-! ### The step -/

theorem finishStep_next_iff {r : Result} {t : State} :
    finishStep r = .next t ↔ ∃ u, r = .next u ∧ u.imeRetire.endStep = t := by
  cases r <;> simp [finishStep]

/-- What a step that answers a next state went through (R360): it began without a fault, lines 1 to 3 succeeded, and it
then fetched and executed an instruction and retired it, or idled halted or stopped. -/
theorem step_inv {s t : State} (h : step s = .next t) :
    s.fault = none ∧ ∃ s1, s.prepare = .ok s1 ∧
      ((s1.runState = .running ∧ ∃ i u v, s1.dropOverlay.fetchInstr = .ok (i, u) ∧ exec i u = .next v ∧
          t = v.imeRetire.endStep) ∨
        (s1.runState ≠ .running ∧ t = s1.idle.endStep)) := by
  unfold step at h
  cases hf : s.fault with
  | some f => rw [hf] at h; cases h
  | none =>
    rw [hf] at h
    obtain ⟨s1, h1, h⟩ := andThen_next_iff.1 h
    refine ⟨rfl, s1, h1, ?_⟩
    cases hr : s1.runState <;> rw [hr] at h
    case running =>
      obtain ⟨⟨i, u⟩, hu, h⟩ := andThen_next_iff.1 h
      obtain ⟨v, hv, rfl⟩ := finishStep_next_iff.1 h
      exact .inl ⟨rfl, i, u, v, hu, hv, rfl⟩
    all_goals cases h; exact .inr ⟨nofun, rfl⟩

/-- Lines 2 and 3 of R360 after line 1. -/
theorem State.prepare_spends {s t : State} (h : s.prepare = .ok t) :
    ∃ k, (k = 0 ∨ k = 20) ∧ s.beginStep.Spends k t := by
  obtain ⟨k, hk, hs⟩ := State.takeInterrupt_spends h
  exact ⟨k, hk, by simpa using s.beginStep.wake_spends.trans hs⟩

/-- A running core executes one instruction: fetch, meaning and retirement together charge its cost. -/
theorem instruction_spends {s u v : State} {i : Instr} (hu : s.dropOverlay.fetchInstr = .ok (i, u))
    (hv : exec i u = .next v) : ∃ k, GoodCost k ∧ s.Spends k v.imeRetire := by
  obtain ⟨k, hk, hs⟩ := exec_spends hv
  have fetched := s.dropOverlay_spends.trans (State.fetchInstr_spends hu)
  exact ⟨k, hk, by simpa using (fetched.trans hs).trans v.imeRetire_spends⟩

/-- A step is line 1 of R360, then a part that charges the whole cost, at most a dispatch and an instruction, then
lines 5 to 7. -/
theorem step_spends {s t : State} (h : step s = .next t) :
    s.fault = none ∧ ∃ u k, k % 4 = 0 ∧ 4 ≤ k ∧ k ≤ 44 ∧ s.beginStep.Spends k u ∧ t = u.endStep := by
  obtain ⟨hf, s1, h1, h⟩ := step_inv h
  obtain ⟨k, hk, hs⟩ := State.prepare_spends h1
  have rest : ∃ u n, GoodCost n ∧ s1.Spends n u ∧ t = u.endStep := by
    rcases h with ⟨-, i, u, v, hu, hv, rfl⟩ | ⟨-, rfl⟩
    · obtain ⟨n, hn, hi⟩ := instruction_spends hu hv
      exact ⟨_, n, hn, hi, rfl⟩
    · exact ⟨_, 4, by decide, s1.idle_spends, rfl⟩
  obtain ⟨u, n, ⟨hn4, hlo, hhi⟩, hu, rfl⟩ := rest
  exact ⟨hf, u, k + n, by omega, by omega, by omega, hs.trans hu, rfl⟩

/-- Settles O56: the account of the phases between line 1 and line 5 of R360, then what those two ends write. -/
theorem stepAccounts : Obligations.StepAccounts := by
  intro s t h
  obtain ⟨hf, u, k, hk4, hlo, hhi, acc, rfl⟩ := step_spends h
  obtain ⟨x, p, c, os, he⟩ := u.endStep_only
  obtain ⟨keys, v, r, hb⟩ := s.beginStep_only
  rw [hb] at acc
  obtain ⟨os', ho⟩ := acc.outputs
  obtain rfl : u.cycles = k := acc.cycles.trans (Nat.zero_add k)
  have houtputs : u.outputs ++ os = s.outputs ++ (os' ++ os) := by rw [ho]; exact List.append_assoc ..
  rw [he]
  exact ⟨hk4, hlo, hhi, congrArg (· + u.cycles) acc.clock, acc.hostQueue, acc.fault.trans hf, acc.rom, acc.params,
    acc.overlay, os' ++ os, houtputs⟩

end Sys2Proof.Machine
end

section
/-! PROOF. The invariant of the machine: it holds after a reset, and each phase of a step (R360), so a step, keeps it. -/

namespace Sys2Proof.Machine

/-! ### The invariant over the phases -/

/-- The invariant speaks of storage, F, the PPU, the overlay and the parameters alone. -/
theorem State.Inv.of_same {s t : State} (h : s.Inv) (hmem : t.mem = s.mem) (hf : t.regs.f = s.regs.f)
    (hppu : t.ppu = s.ppu) (ho : t.bootOverlay = s.bootOverlay) (hp : t.params = s.params) : t.Inv where
  memWf := by rw [hmem]; exact h.memWf
  cells := by rw [hmem]; exact h.cells
  fLow := by rw [hf]; exact h.fLow
  ppu := by rw [hppu]; exact h.ppu
  overlay := by rw [ho, hp]; exact h.overlay

/-- A bus write keeps the invariant (R72). -/
theorem State.wrote_keepsInv {s : State} (h : s.Inv) (a : Word) (v : Byte) : (s.wrote a v).Inv where
  memWf := State.wrote_memWf h.memWf a v
  cells := State.wrote_cells h.cells a v
  fLow := by rw [State.wrote_regs]; exact h.fLow
  ppu := State.wrote_legal h.ppu a v
  overlay := by rw [(s.wrote_sameCore a v).bootOverlay, State.wrote_params]; exact h.overlay

theorem State.wroteWord_keepsInv {s : State} (h : s.Inv) (a v : Word) : (s.wroteWord a v).Inv :=
  State.wrote_keepsInv (State.wrote_keepsInv h a (lo v)) (a + 1) (hi v)

/-- Lines 1 and 2 of R360 write the keys, IF, the run state and the counts. -/
theorem State.beginStep_keepsInv {s : State} (h : s.Inv) : s.beginStep.Inv := by
  obtain ⟨k, v, r, hb⟩ := s.beginStep_only
  rw [hb]
  exact h.of_same rfl rfl rfl rfl rfl

theorem State.wake_keepsInv {s : State} (h : s.Inv) : s.wake.Inv := by
  unfold State.wake
  split
  · exact h.of_same rfl rfl rfl rfl rfl
  · exact h

/-- A dispatch pushes pc through the bus (R373). -/
theorem State.dispatch_keepsInv {s t : State} {i : Nat} (h : s.Inv) (hd : s.dispatch i = .ok t) : t.Inv := by
  obtain ⟨-, -, rfl⟩ := State.dispatch_inv hd
  have before : (((s.resetInterrupt i).setIme false).setSP (s.regs.sp - 2)).Inv := h.of_same rfl rfl rfl rfl rfl
  exact (State.wroteWord_keepsInv before (s.regs.sp - 2) s.regs.pc).of_same rfl rfl rfl rfl rfl

theorem State.takeInterrupt_keepsInv {s t : State} (h : s.Inv) (ht : s.takeInterrupt = .ok t) : t.Inv := by
  rcases State.takeInterrupt_inv ht with rfl | ⟨i, -, -, -, hi⟩
  · exact h
  · exact State.dispatch_keepsInv h hi

/-- Lines 1 to 3 of R360. -/
theorem State.prepare_keepsInv {s t : State} (h : s.Inv) (hp : s.prepare = .ok t) : t.Inv :=
  State.takeInterrupt_keepsInv (State.wake_keepsInv (State.beginStep_keepsInv h)) hp

/-- The test of R362 can only take the overlay away. -/
theorem State.dropOverlay_keepsInv {s : State} (h : s.Inv) : s.dropOverlay.Inv := by
  unfold State.dropOverlay
  split
  · exact ⟨h.memWf, h.cells, h.fLow, h.ppu, nofun⟩
  · exact h

theorem State.fetchInstr_keepsInv {s t : State} {i : Instr} (h : s.Inv) (hf : s.fetchInstr = .ok (i, t)) : t.Inv := by
  obtain ⟨v, rfl⟩ := State.fetchInstr_inv hf
  exact h.of_same rfl rfl rfl rfl rfl

/-- Every instruction keeps the invariant: it only stores through the bus and writes the CPU's own part. -/
theorem exec_keepsInv {i : Instr} {s t : State} (h : s.Inv) (he : exec i s = .next t) : t.Inv := by
  have e := exec_effect he
  obtain ⟨-, -, -, -, ho, hp, -⟩ := e.frame
  exact ⟨e.memWf h.memWf, e.cells h.cells, e.fLow h.fLow, e.legal h.ppu, by rw [ho, hp]; exact h.overlay⟩

/-- Lines 5 to 7 of R360: the timer leaves all the invariant speaks of, the PPU stays legal. -/
theorem State.endStep_keepsInv {s : State} (h : s.Inv) : s.endStep.Inv := by
  unfold State.endStep
  split
  · exact h.of_same rfl rfl rfl rfl rfl
  · have timed : (s.timerAdvance s.cycles).Inv := by
      obtain ⟨d, x, v, ht⟩ := State.timerAdvance_only s.cycles s
      rw [ht]
      exact h.of_same rfl rfl rfl rfl rfl
    have legal := State.ppuAdvance_legal timed.ppu s.cycles
    obtain ⟨m, dot, line, ly, v, os, hp⟩ := (s.timerAdvance s.cycles).ppuAdvance_only s.cycles
    rw [hp] at legal ⊢
    exact ⟨timed.memWf, timed.cells, timed.fLow, legal, timed.overlay⟩

/-- Settles O59: a step is its phases one after the other, and each keeps the invariant. -/
theorem stepKeepsInv : Obligations.StepKeepsInv := by
  intro s t h hs
  obtain ⟨-, s1, h1, hrest⟩ := step_inv hs
  have prepared : s1.Inv := State.prepare_keepsInv h h1
  rcases hrest with ⟨-, i, u, v, hu, hv, rfl⟩ | ⟨-, rfl⟩
  · have fetched : u.Inv := State.fetchInstr_keepsInv (State.dropOverlay_keepsInv prepared) hu
    have retired : v.imeRetire.Inv := (exec_keepsInv fetched hv).of_same rfl rfl rfl rfl rfl
    exact State.endStep_keepsInv retired
  · have idled : s1.idle.Inv := prepared.of_same rfl rfl rfl rfl rfl
    exact State.endStep_keepsInv idled

/-! ### Reset -/

/-- The PPU of both reset profiles is home (R60, R61). -/
theorem State.resetWith_legal (p : Launch) : (State.resetWith p).ppu.Legal where
  dot := by simp [State.resetWith, PpuMode.budget]
  line := by simp [State.resetWith]
  vBlank := by simp [State.resetWith]
  ly := .inl rfl
  off _ := ⟨rfl, rfl, rfl, rfl⟩

/-- F after reset: masked, or 0xB0 with SKIP_BOOT (R60, R61). -/
theorem State.resetWith_fLow (p : Launch) : (State.resetWith p).regs.f &&& 0x0F = 0 := by
  cases hb : p.skipBoot
  · simp only [State.resetWith, hb]
    exact mask_low p.f
  · simp [State.resetWith, hb]

/-- A launch that lists storage in canonical form starts in the invariant. -/
theorem State.inv_resetWith {p : Launch} (hm : p.mem.wf) (hc : ∀ c ∈ p.mem, isCell c.1 = true) :
    (State.resetWith p).Inv where
  memWf := hm
  cells := hc
  fLow := State.resetWith_fLow p
  ppu := State.resetWith_legal p
  overlay ho := (Bool.and_eq_true_iff.1 ho).1

/-- Settles O58. -/
theorem invAtReset : Obligations.InvAtReset :=
  ⟨State.inv_resetWith Memory.wf_nil nofun, fun _ => State.inv_resetWith⟩

/-- Settles O57: the two profiles by the value of SKIP_BOOT. -/
theorem startConfigurations : Obligations.StartConfigurations := by
  intro p
  refine ⟨fun hb => ?_, fun hb => ?_⟩
  · simp [State.resetWith, hb, Keys.empty]
  · simp [State.resetWith, hb, Keys.empty]

end Sys2Proof.Machine
end

section
/-! PROOF. Pairs as views of registers, the plain regions of the bus, and the stack on plain RAM. -/

namespace Sys2Proof.Machine

/-! ### Register pairs (R22) -/

theorem pair_toNat_high_first (h l : Byte) : (pair h l).toNat = 256 * h.toNat + l.toNat := by
  rw [pair_toNat, Nat.mul_comm]

theorem lo_eq_ofNat (v : Word) : lo v = BitVec.ofNat 8 v.toNat :=
  BitVec.eq_of_toNat_eq (by rw [lo_toNat, BitVec.toNat_ofNat])

theorem hi_eq_ofNat (v : Word) : hi v = BitVec.ofNat 8 (v.toNat / 256) := by
  rw [← hi_toNat, BitVec.ofNat_toNat, BitVec.setWidth_eq]

/-- Settles O10. -/
theorem pairsAreViews : Obligations.PairsAreViews := by
  intro s v
  rw [← hi_eq_ofNat, ← lo_eq_ofNat]
  have readBack : pair (hi v) (lo v) = v := pair_hi_lo v
  exact ⟨pair_toNat_high_first _ _, pair_toNat_high_first _ _, pair_toNat_high_first _ _, rfl, rfl, rfl,
    readBack, readBack, readBack⟩

/-! ### The plain regions (R76, R80, R81, R86, R87) -/

theorem regionOf_rom {o : Bool} {a : Word} (h : a.toNat < 0x8000) (ho : o = false ∨ 0x0100 ≤ a.toNat) :
    regionOf o a = .rom := by
  rw [regionOf, if_neg, if_pos h]
  rintro ⟨rfl, hb⟩
  rcases ho with ho | ho
  · cases ho
  · omega

/-- Work RAM, its echo or high RAM: storage with no gate and no switch (R80, R81, R86). -/
def PlainRam (a : Word) : Prop :=
  (0xC000 ≤ a.toNat ∧ a.toNat < 0xFE00) ∨ (0xFF80 ≤ a.toNat ∧ a.toNat < 0xFFFF)

theorem regionOf_plainRam {a : Word} (h : PlainRam a) (o : Bool) :
    regionOf o a = .wram ∨ regionOf o a = .echo ∨ regionOf o a = .hram := by
  have below : ∀ n ≤ 0xC000, ¬ a.toNat < n := by unfold PlainRam at h; omega
  rw [regionOf, if_neg (below 0x0100 (by decide) ·.2), if_neg (below 0x8000 (by decide)),
    if_neg (below 0xA000 (by decide)), if_neg (below 0xC000 (by decide))]
  rcases h with ⟨-, h⟩ | ⟨h, h'⟩
  · by_cases he : a.toNat < 0xE000
    · exact .inl (if_pos he)
    · exact .inr (.inl (by rw [if_neg he, if_pos h]))
  · refine .inr (.inr ?_)
    rw [if_neg (by omega), if_neg (by omega), if_neg (by omega), if_neg (by omega), if_neg (by omega), if_pos h']

theorem State.memRead_plainRam (s : State) {a : Word} (h : PlainRam a) : s.memRead a = .ok (s.cell a) := by
  rcases regionOf_plainRam h s.bootOverlay with e | e | e <;> rw [State.memRead, State.region, e]

theorem State.memWrite_plainRam (s : State) {a : Word} (h : PlainRam a) (v : Byte) :
    s.memWrite a v = .ok (s.setCell a v) := by
  rcases regionOf_plainRam h s.bootOverlay with e | e | e <;> rw [State.memWrite, State.region, e]

theorem cellOf_echo {a : Word} (h : 0xE000 ≤ a.toNat) (h' : a.toNat < 0xFE00) : cellOf a = a.toNat - 0x2000 :=
  if_pos ⟨h, h'⟩

theorem cellOf_not_echo {a : Word} (h : a.toNat < 0xE000 ∨ 0xFE00 ≤ a.toNat) : cellOf a = a.toNat :=
  if_neg (by omega)

/-- The address 0xFFFF is IE (R87). -/
theorem regionOf_ie {a : Word} (h : a.toNat = 0xFFFF) (o : Bool) : regionOf o a = .ie := by
  simp [regionOf, h]

/-- A read of ROM outside the active overlay (R76, R77). -/
theorem State.memRead_rom (s : State) {a : Word} (h : a.toNat < 0x8000)
    (ho : s.bootOverlay = false ∨ 0x0100 ≤ a.toNat) : s.memRead a = .ok (s.mem.get a.toNat) := by
  rw [State.memRead, State.region, regionOf_rom h ho, State.cell, cellOf_not_echo (by omega)]

/-- A write below 0x8000 is dropped, under the overlay too (R76, R77). -/
theorem State.memWrite_rom (s : State) {a : Word} (h : a.toNat < 0x8000) (v : Byte) : s.memWrite a v = .ok s := by
  by_cases ho : s.bootOverlay = true ∧ a.toNat < 0x0100
  · rw [State.memWrite, State.region, regionOf, if_pos ho]
  · rw [State.memWrite, State.region, regionOf, if_neg ho, if_pos h]

/-- Settles O47: ROM, then the three plain memories by the cell each address reaches, then IE. -/
theorem plainRegions : Obligations.PlainRegions := by
  intro s a v
  have ram : PlainRam a → ∀ n, cellOf a = n →
      s.memRead a = .ok (s.mem.get n) ∧ s.memWrite a v = .ok { s with mem := s.mem.set n v } := by
    rintro h n rfl
    exact ⟨s.memRead_plainRam h, s.memWrite_plainRam h v⟩
  refine ⟨s.memRead_rom, fun h => s.memWrite_rom h v, fun h h' => ?_, fun h h' => ?_, fun h h' => ?_, fun h => ?_⟩
  · exact ram (.inl ⟨h, by omega⟩) _ (cellOf_not_echo (.inl h'))
  · exact ram (.inl ⟨by omega, h'⟩) _ (cellOf_echo h h')
  · exact ram (.inr ⟨h, h'⟩) _ (cellOf_not_echo (.inr (by omega)))
  · constructor
    · rw [State.memRead, State.region, regionOf_ie h]
    · rw [State.memWrite, State.region, regionOf_ie h]

/-! ### The stack on plain RAM (R28, R29) -/

theorem State.pop16_plainRam {s : State} (h0 : PlainRam s.regs.sp) (h1 : PlainRam (s.regs.sp + 1)) :
    s.pop16 = .ok (pair (s.cell (s.regs.sp + 1)) (s.cell s.regs.sp), s.setSP (s.regs.sp + 2)) := by
  rw [State.pop16, State.memRead16, State.memRead_plainRam s h0, State.memRead_plainRam s h1]
  rfl

theorem State.cell_setCell_same {s : State} (h : s.mem.wf) (a : Word) (v : Byte) : (s.setCell a v).cell a = v :=
  Memory.get_set_same h _ _

theorem State.cell_setCell_other (s : State) {a b : Word} (h : cellOf b ≠ cellOf a) (v : Byte) :
    (s.setCell a v).cell b = s.cell b :=
  Memory.get_set_other _ _ h

/-- Two addresses that follow each other reach different cells, at the edges of the echo too (R81). -/
theorem cellOf_ne_of_succ {a b : Word} (h : b.toNat = a.toNat + 1) : cellOf a ≠ cellOf b := by
  unfold cellOf
  split <;> split <;> omega

/-- A push on plain RAM puts the two bytes into two different cells, and of the registers moves only SP (R28). -/
theorem State.push16_plainRam {s : State} (hwf : s.mem.wf) (h2 : PlainRam (s.regs.sp - 2))
    (h1 : PlainRam (s.regs.sp - 1)) (w : Word) :
    ∃ t, s.push16 w = .ok t ∧ t.regs = { s.regs with sp := s.regs.sp - 2 } ∧
      t.cell (s.regs.sp - 2) = lo w ∧ t.cell (s.regs.sp - 1) = hi w := by
  have hsucc : (s.regs.sp - 1).toNat = (s.regs.sp - 2).toNat + 1 := by unfold PlainRam at h2; bv_omega
  let t1 := (s.setSP (s.regs.sp - 2)).setCell (s.regs.sp - 2) (lo w)
  have pushed : s.push16 w = .ok (t1.setCell (s.regs.sp - 1) (hi w)) := by
    rw [State.push16, State.memWrite16, State.memWrite_plainRam _ h2, except_bind_ok, word_sub_two_add_one,
      State.memWrite_plainRam _ h1]
  refine ⟨_, pushed, rfl, ?_, State.cell_setCell_same (Memory.wf_set hwf _ _) _ _⟩
  rw [State.cell_setCell_other _ (cellOf_ne_of_succ hsucc)]
  exact State.cell_setCell_same hwf _ _

/-- Settles O13: the two bytes below SP are plain RAM, so the pop reads what the push put there. -/
theorem pushThenPop : Obligations.PushThenPop := by
  intro s w hwf hlow hhigh
  have e2 : (s.regs.sp - 2).toNat = s.regs.sp.toNat - 2 := by bv_omega
  have e1 : (s.regs.sp - 1).toNat = s.regs.sp.toNat - 1 := by bv_omega
  have h2 : PlainRam (s.regs.sp - 2) := by unfold PlainRam; omega
  have h1 : PlainRam (s.regs.sp - 1) := by unfold PlainRam; omega
  obtain ⟨t, ht, hregs, hlo, hhi⟩ := State.push16_plainRam hwf h2 h1 w
  have hsp : t.regs.sp = s.regs.sp - 2 := by rw [hregs]
  have hsp1 : t.regs.sp + 1 = s.regs.sp - 1 := by rw [hsp, word_sub_two_add_one]
  refine ⟨t, t.setSP (t.regs.sp + 2), ht, ?_, ?_⟩
  · rw [State.pop16_plainRam (by rwa [hsp]) (by rwa [hsp1]), hsp1, hsp, hhi, hlo, pair_hi_lo]
  · rw [State.setSP, hsp, hregs, BitVec.sub_add_cancel]

end Sys2Proof.Machine
end

section
/-! PROOF. What stack, call and return instructions leave where both stack bytes answer, and the faults that are final. -/

namespace Sys2Proof.Machine

/-! ### Instructions by their operand fields (R128) -/

theorem exec_pushInstr (p : StkReg) (s : State) : exec (pushInstr p) s = pushPair p s := by cases p <;> rfl

theorem exec_popInstr (p : StkReg) (s : State) : exec (popInstr p) s = popPair p s := by cases p <;> rfl

theorem exec_callCondInstr (cc : Cond) (nn : Word) (s : State) :
    exec (callCondInstr nn cc) s = conditional cc (callTo nn 24) 12 s := by cases cc <;> rfl

theorem exec_retCondInstr (cc : Cond) (s : State) :
    exec (retCondInstr cc) s = conditional cc (returnWith 20) 8 s := by cases cc <;> rfl

theorem exec_rstInstr (y : Oct) (s : State) :
    exec (rstInstr y) s = callTo (BitVec.ofNat 16 (8 * y.toNat)) 16 s := by cases y <;> rfl

theorem conditional_taken {cc : Cond} {s : State} (h : s.holds cc = true) (f : State → Result) (n : Nat) :
    conditional cc f n s = f s := if_pos h

theorem conditional_not_taken {cc : Cond} {s : State} (h : s.holds cc = false) (f : State → Result) (n : Nat) :
    conditional cc f n s = .next (s.charge n) := if_neg (by rw [h]; decide)

/-! ### Stores to and loads from the stack (R211, R214, R215) -/

theorem State.memWrite16_ok {s : State} {a : Word} (h0 : s.answers a = true) (h1 : s.answers (a + 1) = true)
    (v : Word) : s.memWrite16 a v = .ok (s.wroteWord a v) := by
  rw [State.memWrite16_eq, if_pos h0, if_pos h1]

/-- Settles O11. -/
theorem stackStores : Obligations.StackStores := by
  refine ⟨fun nn s h0 h1 => ?_, fun p s h2 h1 => ?_⟩
  · show storeSP nn s = _
    rw [storeSP, State.memWrite16_ok h0 h1, andThen_ok]
  · rw [exec_pushInstr, pushPair, State.push16_ok h2 h1, andThen_ok]
    cases p <;> rfl

/-- Settles O12: each pair takes the two halves of the word at SP (`popPair` itself is the model's meaning of POP). -/
theorem popPair_obligation : Obligations.PopPair := by
  intro p s h0 h1
  rw [exec_popInstr, popPair, State.pop16_ok h0 h1, andThen_ok]
  have hhi : hi (s.readWord s.regs.sp) = s.readByte (s.regs.sp + 1) := hi_pair _ _
  have hlo : lo (s.readWord s.regs.sp) = s.readByte s.regs.sp := lo_pair _ _
  rw [← hhi, ← hlo]
  cases p <;> rfl

/-! ### Calls and returns (R315 to R320) -/

theorem callTo_next {s : State} (h2 : s.answers (s.regs.sp - 2) = true) (h1 : s.answers (s.regs.sp - 1) = true)
    (a : Word) (n : Nat) :
    callTo a n s =
      .next (Claims.withPC ((s.setSP (s.regs.sp - 2)).wroteWord (s.regs.sp - 2) s.regs.pc) a n) := by
  rw [callTo, State.push16_ok h2 h1]
  rfl

theorem returnWith_next {s : State} (h0 : s.answers s.regs.sp = true) (h1 : s.answers (s.regs.sp + 1) = true)
    (n : Nat) : returnWith n s = .next (Claims.withPC (s.setSP (s.regs.sp + 2)) (s.readWord s.regs.sp) n) := by
  rw [returnWith, State.pop16_ok h0 h1]
  rfl

/-- Settles O28. -/
theorem calls : Obligations.Calls := by
  refine ⟨fun s h2 h1 => ⟨fun nn => callTo_next h2 h1 nn 24, fun y => ?_, fun cc nn hc => ?_⟩, fun s cc nn hc => ?_⟩
  · rw [exec_rstInstr, callTo_next h2 h1]
  · rw [exec_callCondInstr, conditional_taken hc, callTo_next h2 h1]
  · rw [exec_callCondInstr, conditional_not_taken hc]
    rfl

/-- Settles O29. -/
theorem returns : Obligations.Returns := by
  refine ⟨fun s h0 h1 => ⟨returnWith_next h0 h1 16, ?_, fun cc hc => ?_⟩, fun s cc hc => ?_⟩
  · show execReti s = _
    rw [execReti, State.returnFromInterrupt_ok h0 h1]
    rfl
  · rw [exec_retCondInstr, conditional_taken hc, returnWith_next h0 h1]
  · rw [exec_retCondInstr, conditional_not_taken hc]
    rfl

/-! ### Faults (R50, R337) -/

theorem step_of_fault {s : State} {f : Fault} (h : s.fault = some f) : step s = .fault f := by
  rw [step, h]

/-- Settles O32. -/
theorem unassignedFaults : Obligations.UnassignedFaults := by
  refine ⟨fun s op => rfl, fun s f h => ⟨step_of_fault h, ?_⟩⟩
  rw [State.afterStep, step_of_fault h]
  show { s with fault := some f } = s
  rw [← h]

end Sys2Proof.Machine
end

section
/-! PROOF. A step around its instruction (R360), and the key events it drains first (R395, R396). -/

namespace Sys2Proof.Machine

open Sys2Proof.Claims

/-! ### The end of a step (R360, R376) -/

theorem State.imeRetire_eq (s : State) : s.imeRetire = retired s := rfl

/-- Timer and PPU leave the clock and the count of cycles alone, so the clock takes the cycles of the step (R55). -/
theorem State.endStep_eq (s : State) : s.endStep = settled s := by
  unfold State.endStep settled State.publishClock
  split
  · rfl
  · obtain ⟨d, x, v, ht⟩ := State.timerAdvance_only s.cycles s
    obtain ⟨m, dot, line, ly, v', os, hp⟩ := (s.timerAdvance s.cycles).ppuAdvance_only s.cycles
    rw [hp, ht]
    rfl

/-- A running core's step is the instruction it fetches (R360). -/
theorem step_running {s s1 s2 : State} {i : Instr} (hf : s.fault = none) (hp : s.prepare = .ok s1)
    (hr : s1.runState = .running) (hi : s1.dropOverlay.fetchInstr = .ok (i, s2)) :
    step s = finishStep (exec i s2) := by
  rw [step, hf]
  simp only [hp, andThen_ok, hr, hi]

/-- Settles O5: the bytes are fetched as their instruction, and only the test of R362 writes the overlay. -/
theorem stepRunsDecoded : Obligations.StepRunsDecoded := by
  intro s s1 i bs hf hp hr hd hw s2 hb
  have ho : s1.dropOverlay = s2 := by rw [State.dropOverlay_eq, State.prepare_bootOverlay hp]
  have fetched : s1.dropOverlay.fetchInstr = .ok (i, s2.setPC (s1.regs.pc + BitVec.ofNat 16 bs.length)) := by
    rw [ho]; exact State.fetchInstr_ok hd hw hb
  rw [step_running hf hp hr fetched]
  refine ⟨?_, fun t ht => ?_⟩
  · cases exec i (s2.setPC (s1.regs.pc + BitVec.ofNat 16 bs.length)) with
    | next t =>
      show Host.Outcome.next t.imeRetire.endStep = .next (settled (retired t))
      rw [State.imeRetire_eq, State.endStep_eq]
    | fault f => rfl
    | refused r => rfl
  · obtain ⟨u, hu, rfl⟩ := finishStep_next_iff.1 ht
    obtain ⟨-, -, -, -, hover, -⟩ := (exec_effect hu).frame
    rw [State.endStep_bootOverlay]
    exact hover

/-! ### Key events (R395, R396) -/

theorem Keys.held_put (ks : Keys) (k k' : Key) (v : Bool) :
    (ks.put k v).held k' = if k' = k then v else ks.held k' := by
  cases k <;> cases k' <;> rfl

/-- A key-down of a key not held (R395). -/
theorem State.hostEvent_keyDown {s : State} {k : Key} (h : s.joy.keys.held k = false) :
    s.hostEvent (.keyDown k) = { s with
      joy := { s.joy with keys := s.joy.keys.put k true },
      int := { s.int with if_ := if s.int.ie.getLsbD 4 then s.int.if_ ||| 0b10000 else s.int.if_ },
      runState := if s.runState = .stopped then .running else s.runState } := by
  rw [State.hostEvent, h, if_neg (by decide), State.keyPressed]
  cases s.int.ie.getLsbD 4 <;> by_cases hs : s.runState = .stopped <;> simp only [hs, if_true, if_false] <;> rfl

/-- A repeated key-down is no edge (R395). -/
theorem State.hostEvent_keyDown_held {s : State} {k : Key} (h : s.joy.keys.held k = true) :
    s.hostEvent (.keyDown k) = s := by
  rw [State.hostEvent, if_pos h]

/-- A row of four keys is active low (R396). -/
theorem rowNibble_getLsbD (k0 k1 k2 k3 : Bool) {i : Nat} (h : i < 4) :
    (rowNibble k0 k1 k2 k3).getLsbD i = !([k0, k1, k2, k3].getD i false) := by
  revert k0 k1 k2 k3
  interval_cases i <;> decide

/-- A bit of the P1 nibble is low where a selected row has its key held (R396). -/
theorem joyNibble_getLsbD (j : Joypad) {i : Nat} (h : i < 4) :
    (joyNibble j).getLsbD i =
      !((!j.p1Sel.getLsbD 0 && [j.keys.right, j.keys.left, j.keys.up, j.keys.down].getD i false) ||
        (!j.p1Sel.getLsbD 1 && [j.keys.a, j.keys.b, j.keys.select, j.keys.start].getD i false)) := by
  have ones : (15#4).getLsbD i = true := by interval_cases i <;> rfl
  rw [joyNibble, BitVec.getLsbD_and]
  cases j.p1Sel.getLsbD 0 <;> cases j.p1Sel.getLsbD 1 <;> simp [rowNibble_getLsbD _ _ _ _ h, ones]

/-- Settles O39: the drain and its first event, the keys held, the nibble of P1. -/
theorem keyEvents : Obligations.KeyEvents := by
  refine ⟨fun s => ⟨(step_drain s).symm, s.drain_hostQueue, State.drain_nil⟩, fun s k es => ⟨?_, ?_, ?_, ?_⟩,
    fun j i hi => ?_⟩
  · intro hq hk
    rw [State.drain_cons hq, State.hostEvent_keyDown hk]
    rfl
  · intro hq hk
    rw [State.drain_cons hq, State.hostEvent_keyDown_held hk]
    rfl
  · intro hq
    rw [State.drain_cons hq]
    rfl
  · exact fun k' v => Keys.held_put s.joy.keys k k' v
  · rw [joyNibble_getLsbD j hi]
    interval_cases i <;> rfl

end Sys2Proof.Machine
end

section
/-! PROOF. The pixels of a row (R414 to R417): what the renderer computes is what the formulas of the claims say. -/

namespace Sys2Proof.Machine

open Sys2Proof.Claims

/-! ### Tiles, background and window (R44, R415, R416) -/

theorem shade_eq_paletteShade (pal : Byte) (ci : Nat) : shade pal ci = paletteShade pal ci := by
  apply BitVec.eq_of_toNat_eq
  rw [shade, paletteShade, BitVec.extractLsb'_toNat, BitVec.toNat_ofNat, Nat.shiftRight_eq_div_pow, Nat.pow_mul]

theorem toNat_getLsbD_eq_bit (v : Byte) (b : Nat) : (v.getLsbD b).toNat = bit v.toNat b := by
  rw [BitVec.getLsbD, Nat.toNat_testBit, bit]

theorem planeColour_eq_planes (s : State) (a b : Nat) :
    planeColour (s.mem.get a) (s.mem.get (a + 1)) b = planes s a b := by
  rw [planeColour, planes, toNat_getLsbD_eq_bit, toNat_getLsbD_eq_bit, Nat.add_comm]

/-- The two sets of tiles: unsigned from 0x8000, or signed from 0x9000 (R415). -/
theorem tileBase_eq (lcdc : Byte) (t : Nat) :
    tileBase lcdc t = if lcdc.getLsbD 4 ∨ 128 ≤ t then 0x8000 + 16 * t else 0x9000 + 16 * t := by
  unfold tileBase
  cases lcdc.getLsbD 4
  · by_cases ht : t < 128
    · rw [if_neg (by decide), if_pos ht, if_neg (by simpa using ht)]
    · rw [if_neg (by decide), if_neg ht, if_pos (.inr (Nat.le_of_not_lt ht))]
      omega
  · rw [if_pos rfl, if_pos (.inl rfl)]

theorem tileColour_eq_tileIndex (s : State) (map px py : Nat) : tileColour s map px py = tileIndex s map px py := by
  rw [tileColour, tileIndex, tileBase_eq, planeColour_eq_planes]

theorem windowCovers_iff (s : State) (x y : Nat) :
    windowCovers s x y = true ↔ s.ppu.lcdc.getLsbD 0 = true ∧
      s.ppu.lcdc.getLsbD 5 = true ∧ s.ppu.wy.toNat ≤ y ∧ s.ppu.wx.toNat ≤ x + 7 := by
  simp only [windowCovers, Bool.and_eq_true, decide_eq_true_eq]
  tauto

/-- The colour index below the sprites: the window where it covers, else the background (R414). -/
theorem colour_eq_below (s : State) (x y : Nat) :
    (if windowCovers s x y then winColour s x y else bgColour s x y) = below s x y := by
  simp only [windowCovers_iff, winColour, bgColour, mapBase, tileColour_eq_tileIndex, below]
  cases s.ppu.lcdc.getLsbD 0
  · rw [if_neg (by simp), if_neg (by decide), if_pos rfl]
  · simp only [true_and, if_true, Bool.true_eq_false, if_false]

/-- A pixel where no sprite shows (R414). -/
theorem pixel_of_none {s : State} {line : List Sprite} {x y : Nat} (h : topSprite s line x y = none) :
    pixel s line y x = paletteShade s.ppu.bgp (below s x y) := by
  simp only [pixel, h, colour_eq_below, shade_eq_paletteShade]

/-- Settles O46. -/
theorem renderedRow : Obligations.RenderedRow := by
  refine fun s y => ⟨renderLine_length s y, fun hoff x hx => ?_⟩
  have none_on_top : topSprite s (lineSprites s y) x y = none := by rw [topSprite, if_neg (by rw [hoff]; decide)]
  rw [renderLine_get s y hx, pixel_of_none none_on_top]

/-! ### Sprites (R417) -/

/-- A pixel where a sprite shows on top, or below a background that is not transparent (R414). -/
theorem pixel_of_some {s : State} {line : List Sprite} {x y ci : Nat} {attr : Byte}
    (h : topSprite s line x y = some (ci, attr)) :
    pixel s line y x =
      if attr.getLsbD 7 = false ∨ below s x y = 0 then
        paletteShade (if attr.getLsbD 4 then s.ppu.obp1 else s.ppu.obp0) ci
      else paletteShade s.ppu.bgp (below s x y) := by
  simp only [pixel, h, colour_eq_below, shade_eq_paletteShade, Bool.or_eq_true, Bool.not_eq_true', beq_iff_eq]

theorem onLine_eq_reaches (s : State) (y k : Nat) : (sprite s k).onLine (spriteHeight s) y = reaches s y k := by
  rw [Sprite.onLine, reaches, ← Bool.decide_and]
  rfl

/-- The records of a line are the chosen ones (R417). -/
theorem mem_lineNumbers_iff (s : State) (y k : Nat) : k ∈ lineNumbers s y ↔ chosen s y k := by
  simp only [lineNumbers, onLine_eq_reaches, mem_take_filter_range, chosen]

/-- A tall sprite ignores bit 0 of its tile number (R417). -/
theorem toNat_and_254 (t : Byte) : (t &&& 0xFE).toNat = t.toNat / 2 * 2 := by
  revert t; decide +kernel

theorem spriteTile_toNat (s : State) (t : Byte) :
    (if spriteHeight s = 16 then t &&& 0xFE else t).toNat =
      if s.ppu.lcdc.getLsbD 2 then t.toNat / 2 * 2 else t.toNat := by
  unfold spriteHeight
  cases s.ppu.lcdc.getLsbD 2
  · rfl
  · exact toNat_and_254 t

/-- The colour of a record at a pixel is its index and attributes, none where the index is 0 (R417). -/
theorem spriteColour_eq (s : State) (x y k : Nat) :
    spriteColour s x y (sprite s k) =
      if spriteIndex s x y k = 0 then none else some (spriteIndex s x y k, oamByte s k 3) := by
  have covers : ((sprite s k).x ≤ x + 8 ∧ x + 8 < (sprite s k).x + 8) ↔
      ((oamByte s k 1).toNat ≤ x + 8 ∧ x < (oamByte s k 1).toNat) := by
    show (oamByte s k 1).toNat ≤ _ ∧ _ < (oamByte s k 1).toNat + 8 ↔ _
    omega
  simp only [spriteColour, spriteIndex, planeColour_eq_planes, spriteTile_toNat, covers]
  split
  · rfl
  · rw [if_pos rfl]

/-- Settles O60: the chosen records are those of the line, and the best opaque one is the one that shows. -/
theorem spritePixel : Obligations.SpritePixel := by
  intro s x y hx hon
  rw [renderLine_get s y hx]
  refine ⟨fun k hk hopaque hbest => ?_, fun hnone => ?_⟩
  · have shows : spriteColour s x y (sprite s k) = some (spriteIndex s x y k, oamByte s k 3) := by
      rw [spriteColour_eq, if_neg hopaque]
    have first : ∀ j ∈ lineNumbers s y, (spriteColour s x y (sprite s j)).isSome = true →
        (sprite s k).x < (sprite s j).x ∨ ((sprite s k).x = (sprite s j).x ∧ k ≤ j) := by
      intro j hj hsome
      have hj0 : spriteIndex s x y j ≠ 0 := by
        intro h0
        rw [spriteColour_eq, if_pos h0] at hsome
        cases hsome
      exact (hbest j ((mem_lineNumbers_iff s y j).1 hj) hj0).imp id (And.imp_left (congrArg BitVec.toNat))
    rw [pixel_of_some (topSprite_some hon ((mem_lineNumbers_iff s y k).2 hk) shows first)]
  · have hidden : ∀ k ∈ lineNumbers s y, spriteColour s x y (sprite s k) = none := fun k hk => by
      rw [spriteColour_eq, if_pos (hnone k ((mem_lineNumbers_iff s y k).1 hk))]
    rw [pixel_of_none (topSprite_none hidden)]

end Sys2Proof.Machine
end

section
/-! PROOF. The flags an instruction does not list are left as they are (R30): per shape of Operands.lean, then per row. -/

namespace Sys2Proof.Machine

/-! ### What a row of the table asks -/

/-- From `s` to `t` every flag outside the row `w` is as before (R30). -/
def FlagsKept (w : Flags) (s t : State) : Prop :=
  (w.z = false → t.flags.z = s.flags.z) ∧ (w.n = false → t.flags.n = s.flags.n) ∧
    (w.h = false → t.flags.h = s.flags.h) ∧ (w.c = false → t.flags.c = s.flags.c)

/-- F as it was keeps every flag. -/
theorem FlagsKept.of_f {w : Flags} {s t : State} (h : t.regs.f = s.regs.f) : FlagsKept w s t := by
  have hf : t.flags = s.flags := congrArg unpackFlags h
  simp [FlagsKept, hf]

/-- A row that lists all four flags asks nothing. -/
theorem FlagsKept.of_all (s t : State) : FlagsKept ⟨true, true, true, true⟩ s t := ⟨nofun, nofun, nofun, nofun⟩

theorem FlagsKept.of_c {s t : State} (h : t.flags.c = s.flags.c) : FlagsKept ⟨true, true, true, false⟩ s t :=
  ⟨nofun, nofun, nofun, fun _ => h⟩

theorem FlagsKept.of_z {s t : State} (h : t.flags.z = s.flags.z) : FlagsKept ⟨false, true, true, true⟩ s t :=
  ⟨fun _ => h, nofun, nofun, nofun⟩

theorem FlagsKept.of_n {s t : State} (h : t.flags.n = s.flags.n) : FlagsKept ⟨true, false, true, true⟩ s t :=
  ⟨nofun, fun _ => h, nofun, nofun⟩

theorem FlagsKept.of_zc {s t : State} (hz : t.flags.z = s.flags.z) (hc : t.flags.c = s.flags.c) :
    FlagsKept ⟨false, true, true, false⟩ s t :=
  ⟨fun _ => hz, nofun, nofun, fun _ => hc⟩

/-! ### The shapes that write no flag -/

section KeepsF

variable {s t : State}

theorem ldRegReg_keepsF {dst src : Reg8} (h : ldRegReg dst src s = .next t) : t.regs.f = s.regs.f := by
  cases h; exact s.setReg_regs_f dst _

theorem ldRegImm_keepsF {dst : Reg8} {n : Byte} (h : ldRegImm dst n s = .next t) : t.regs.f = s.regs.f := by
  cases h; exact s.setReg_regs_f dst n

theorem loadReg_keepsF {dst : Reg8} {a : Word} {n : Nat} (h : loadReg dst a n s = .next t) :
    t.regs.f = s.regs.f := by
  obtain ⟨-, h⟩ := andThen_memRead.1 h
  cases h; exact s.setReg_regs_f dst _

theorem storeByte_keepsF {a : Word} {v : Byte} {n : Nat} (h : storeByte a v n s = .next t) :
    t.regs.f = s.regs.f := by
  obtain ⟨-, h⟩ := andThen_memWrite.1 h
  cases h; exact congrArg Regs.f (s.wrote_regs a v)

theorem loadStepHL_keepsF {d : Word} (h : loadStepHL d s = .next t) : t.regs.f = s.regs.f := by
  obtain ⟨-, h⟩ := andThen_memRead.1 h
  cases h; rfl

theorem storeStepHL_keepsF {d : Word} (h : storeStepHL d s = .next t) : t.regs.f = s.regs.f := by
  obtain ⟨-, h⟩ := andThen_memWrite.1 h
  cases h; exact (congrArg Regs.f (s.wrote_regs s.hl s.regs.a) :)

theorem ldPairImm_keepsF {p : Reg16} {nn : Word} (h : ldPairImm p nn s = .next t) : t.regs.f = s.regs.f := by
  cases h; exact s.setReg16_regs_f p nn

theorem storeSP_keepsF {nn : Word} (h : storeSP nn s = .next t) : t.regs.f = s.regs.f := by
  obtain ⟨u, hu, h⟩ := andThen_next_iff.1 h
  rw [State.memWrite16_eq] at hu
  split at hu
  · split at hu
    · cases hu; cases h; exact congrArg Regs.f (s.wroteWord_regs _ _)
    · cases hu
  · cases hu

theorem ldSPHL_keepsF (h : ldSPHL s = .next t) : t.regs.f = s.regs.f := by
  cases h; rfl

/-- A push writes no register but SP (R28). -/
theorem State.push16_keepsF {v : Word} (h : s.push16 v = .ok t) : t.regs.f = s.regs.f := by
  obtain ⟨-, -, rfl⟩ := State.push16_inv h
  exact (congrArg Regs.f ((s.setSP _).wroteWord_regs _ v) :)

theorem pushPair_keepsF {p : StkReg} (h : pushPair p s = .next t) : t.regs.f = s.regs.f := by
  obtain ⟨u, hu, h⟩ := andThen_next_iff.1 h
  cases h; exact (State.push16_keepsF hu :)

/-- Of the pairs of POP only AF holds F. -/
theorem popPair_keepsF {p : StkReg} (h : popPair p s = .next t) (hp : p ≠ .af) : t.regs.f = s.regs.f := by
  obtain ⟨⟨v, u⟩, hu, h⟩ := andThen_next_iff.1 h
  obtain ⟨-, -, -, rfl⟩ := State.pop16_inv hu
  cases h
  cases p
  case af => exact absurd rfl hp
  all_goals rfl

theorem incPair_keepsF {p : Reg16} (h : incPair p s = .next t) : t.regs.f = s.regs.f := by
  cases h; exact s.setReg16_regs_f p _

theorem decPair_keepsF {p : Reg16} (h : decPair p s = .next t) : t.regs.f = s.regs.f := by
  cases h; exact s.setReg16_regs_f p _

theorem replaceOpnd_keepsF {f : Byte → Byte} {o : Opnd8} (h : replaceOpnd f o s = .next t) :
    t.regs.f = s.regs.f := by
  cases o with
  | reg r => cases h; exact s.setReg_regs_f r _
  | mHL =>
    obtain ⟨-, h⟩ := andThen_memRead.1 h
    exact storeByte_keepsF (n := 16) h

theorem jumpTo_keepsF {a : Word} {n : Nat} (h : jumpTo a n s = .next t) : t.regs.f = s.regs.f := by
  cases h; rfl

theorem callTo_keepsF {a : Word} {n : Nat} (h : callTo a n s = .next t) : t.regs.f = s.regs.f := by
  obtain ⟨u, hu, h⟩ := andThen_next_iff.1 h
  cases h; exact (State.push16_keepsF hu :)

theorem returnWith_keepsF {n : Nat} (h : returnWith n s = .next t) : t.regs.f = s.regs.f := by
  obtain ⟨⟨v, u⟩, hu, h⟩ := andThen_next_iff.1 h
  obtain ⟨-, -, -, rfl⟩ := State.pop16_inv hu
  cases h; rfl

theorem reti_keepsF (h : execReti s = .next t) : t.regs.f = s.regs.f := by
  obtain ⟨u, hu, h⟩ := andThen_next_iff.1 h
  obtain ⟨-, -, rfl⟩ := State.returnFromInterrupt_inv hu
  cases h; rfl

theorem conditional_keepsF {cc : Cond} {f : State → Result} {n : Nat} (hf : f s = .next t → t.regs.f = s.regs.f)
    (h : conditional cc f n s = .next t) : t.regs.f = s.regs.f := by
  unfold conditional at h
  split at h
  · exact hf h
  · cases h; rfl

/-! ### The shapes that write some flags -/

theorem modifyReg_flags {f : Byte → Byte × Flags} {r : Reg8} {n : Nat} (h : modifyReg f r n s = .next t) :
    t.flags = (f (s.reg r)).2 := by
  cases h; exact unpackFlags_packFlags _

theorem modifyInd_flags {f : Byte → Byte × Flags} {n : Nat} (h : modifyInd f n s = .next t) :
    t.flags = (f (s.readByte s.hl)).2 := by
  obtain ⟨-, h⟩ := andThen_memRead.1 h
  obtain ⟨-, h⟩ := andThen_memWrite.1 h
  cases h; exact unpackFlags_packFlags _

theorem incReg_keepsC {r : Reg8} (h : incReg r s = .next t) : t.flags.c = s.flags.c :=
  (congrArg Flags.c (modifyReg_flags (f := fun v => inc8 v s.flags) h) :)

theorem decReg_keepsC {r : Reg8} (h : decReg r s = .next t) : t.flags.c = s.flags.c :=
  (congrArg Flags.c (modifyReg_flags (f := fun v => dec8 v s.flags) h) :)

theorem incInd_keepsC (h : execInc_mHL s = .next t) : t.flags.c = s.flags.c :=
  (congrArg Flags.c (modifyInd_flags (f := fun v => inc8 v s.flags) h) :)

theorem decInd_keepsC (h : execDec_mHL s = .next t) : t.flags.c = s.flags.c :=
  (congrArg Flags.c (modifyInd_flags (f := fun v => dec8 v s.flags) h) :)

theorem bitOpnd_keepsC {n : Nat} {o : Opnd8} (h : bitOpnd n o s = .next t) : t.flags.c = s.flags.c := by
  cases o with
  | reg r => cases h; exact (congrArg Flags.c (s.flags_setFlags (bit8 n _ s.flags)) :)
  | mHL =>
    obtain ⟨-, h⟩ := andThen_memRead.1 h
    cases h; exact (congrArg Flags.c (s.flags_setFlags (bit8 n _ s.flags)) :)

theorem addHL_keepsZ {p : Reg16} (h : addHL p s = .next t) : t.flags.z = s.flags.z := by
  cases h; exact (congrArg Flags.z ((s.setHL _).flags_setFlags (add16 s.hl (s.reg16 p) s.flags).2) :)

/-- DAA keeps N, after an addition and after a subtraction (R173). -/
theorem daa_keepsN (h : execDaa s = .next t) : t.flags.n = s.flags.n := by
  rw [modifyReg_flags (f := fun v => daa8 v s.flags) h, daa8]
  split <;> rfl

theorem scf_keepsZ (h : execScf s = .next t) : t.flags.z = s.flags.z := by
  cases h; exact (congrArg Flags.z (s.flags_setFlags { s.flags with n := false, h := false, c := true }) :)

theorem ccf_keepsZ (h : execCcf s = .next t) : t.flags.z = s.flags.z := by
  cases h; exact (congrArg Flags.z (s.flags_setFlags { s.flags with n := false, h := false, c := !s.flags.c }) :)

theorem cpl_keepsZC (h : execCpl s = .next t) : t.flags.z = s.flags.z ∧ t.flags.c = s.flags.c := by
  have hf : t.flags = { s.flags with n := true, h := true } := by cases h; exact unpackFlags_packFlags _
  rw [hf]
  exact ⟨rfl, rfl⟩

end KeepsF

/-! ### Every instruction -/

/-- Every instruction keeps the flags outside its row; those the last case covers list all four. -/
theorem exec_flagsKept {i : Instr} {s t : State} (h : exec i s = .next t) : FlagsKept (writesFlags i) s t := by
  cases i with
  | nop | halt | stop _ | di | ei => cases h; exact .of_f rfl
  | illegal _ => exact nomatch h
  | ld_B_B | ld_B_C | ld_B_D | ld_B_E | ld_B_H | ld_B_L | ld_B_A | ld_C_B | ld_C_C | ld_C_D | ld_C_E | ld_C_H
  | ld_C_L | ld_C_A | ld_D_B | ld_D_C | ld_D_D | ld_D_E | ld_D_H | ld_D_L | ld_D_A | ld_E_B | ld_E_C | ld_E_D
  | ld_E_E | ld_E_H | ld_E_L | ld_E_A | ld_H_B | ld_H_C | ld_H_D | ld_H_E | ld_H_H | ld_H_L | ld_H_A | ld_L_B
  | ld_L_C | ld_L_D | ld_L_E | ld_L_H | ld_L_L | ld_L_A | ld_A_B | ld_A_C | ld_A_D | ld_A_E | ld_A_H | ld_A_L
  | ld_A_A => exact .of_f (ldRegReg_keepsF h)
  | ld_B_n _ | ld_C_n _ | ld_D_n _ | ld_E_n _ | ld_H_n _ | ld_L_n _ | ld_A_n _ => exact .of_f (ldRegImm_keepsF h)
  | ldh_A_mn _ | ld_A_mnn _ | ld_A_mBC | ld_A_mDE | ld_B_mHL | ld_C_mHL | ld_D_mHL | ld_E_mHL | ld_H_mHL | ld_L_mHL
  | ld_A_mHL | ld_A_mC => exact .of_f (loadReg_keepsF h)
  | ld_mHL_n _ | ldh_mn_A _ | ld_mnn_A _ | ld_mBC_A | ld_mDE_A | ld_mHL_B | ld_mHL_C | ld_mHL_D | ld_mHL_E
  | ld_mHL_H | ld_mHL_L | ld_mHL_A | ld_mC_A => exact .of_f (storeByte_keepsF h)
  | ld_A_mHLi | ld_A_mHLd => exact .of_f (loadStepHL_keepsF h)
  | ld_mHLi_A | ld_mHLd_A => exact .of_f (storeStepHL_keepsF h)
  | ld_BC_nn _ | ld_DE_nn _ | ld_HL_nn _ | ld_SP_nn _ => exact .of_f (ldPairImm_keepsF h)
  | ld_mnn_SP _ => exact .of_f (storeSP_keepsF h)
  | ld_SP_HL => exact .of_f (ldSPHL_keepsF h)
  | push_BC | push_DE | push_HL | push_AF => exact .of_f (pushPair_keepsF h)
  | pop_BC | pop_DE | pop_HL => exact .of_f (popPair_keepsF h (by decide))
  | inc_BC | inc_DE | inc_HL | inc_SP => exact .of_f (incPair_keepsF h)
  | dec_BC | dec_DE | dec_HL | dec_SP => exact .of_f (decPair_keepsF h)
  | jr_e _ | jp_nn _ | jp_HL => exact .of_f (jumpTo_keepsF h)
  | call_nn _ | rst_00 | rst_08 | rst_10 | rst_18 | rst_20 | rst_28 | rst_30 | rst_38 => exact .of_f (callTo_keepsF h)
  | ret => exact .of_f (returnWith_keepsF h)
  | reti => exact .of_f (reti_keepsF h)
  | jr_NZ_e _ | jr_Z_e _ | jr_NC_e _ | jr_C_e _ | jp_NZ_nn _ | jp_Z_nn _ | jp_NC_nn _ | jp_C_nn _ =>
    exact .of_f (conditional_keepsF jumpTo_keepsF h)
  | call_NZ_nn _ | call_Z_nn _ | call_NC_nn _ | call_C_nn _ => exact .of_f (conditional_keepsF callTo_keepsF h)
  | ret_NZ | ret_Z | ret_NC | ret_C => exact .of_f (conditional_keepsF returnWith_keepsF h)
  | res_0_B | res_0_C | res_0_D | res_0_E | res_0_H | res_0_L | res_0_A | res_1_B | res_1_C | res_1_D | res_1_E
  | res_1_H | res_1_L | res_1_A | res_2_B | res_2_C | res_2_D | res_2_E | res_2_H | res_2_L | res_2_A | res_3_B
  | res_3_C | res_3_D | res_3_E | res_3_H | res_3_L | res_3_A | res_4_B | res_4_C | res_4_D | res_4_E | res_4_H
  | res_4_L | res_4_A | res_5_B | res_5_C | res_5_D | res_5_E | res_5_H | res_5_L | res_5_A | res_6_B | res_6_C
  | res_6_D | res_6_E | res_6_H | res_6_L | res_6_A | res_7_B | res_7_C | res_7_D | res_7_E | res_7_H | res_7_L
  | res_7_A | set_0_B | set_0_C | set_0_D | set_0_E | set_0_H | set_0_L | set_0_A | set_1_B | set_1_C | set_1_D
  | set_1_E | set_1_H | set_1_L | set_1_A | set_2_B | set_2_C | set_2_D | set_2_E | set_2_H | set_2_L | set_2_A
  | set_3_B | set_3_C | set_3_D | set_3_E | set_3_H | set_3_L | set_3_A | set_4_B | set_4_C | set_4_D | set_4_E
  | set_4_H | set_4_L | set_4_A | set_5_B | set_5_C | set_5_D | set_5_E | set_5_H | set_5_L | set_5_A | set_6_B
  | set_6_C | set_6_D | set_6_E | set_6_H | set_6_L | set_6_A | set_7_B | set_7_C | set_7_D | set_7_E | set_7_H
  | set_7_L | set_7_A => exact .of_f (replaceOpnd_keepsF (o := .reg _) h)
  | res_0_mHL | res_1_mHL | res_2_mHL | res_3_mHL | res_4_mHL | res_5_mHL | res_6_mHL | res_7_mHL | set_0_mHL
  | set_1_mHL | set_2_mHL | set_3_mHL | set_4_mHL | set_5_mHL | set_6_mHL | set_7_mHL =>
    exact .of_f (replaceOpnd_keepsF (o := .mHL) h)
  | inc_B | inc_C | inc_D | inc_E | inc_H | inc_L | inc_A => exact .of_c (incReg_keepsC h)
  | dec_B | dec_C | dec_D | dec_E | dec_H | dec_L | dec_A => exact .of_c (decReg_keepsC h)
  | inc_mHL => exact .of_c (incInd_keepsC h)
  | dec_mHL => exact .of_c (decInd_keepsC h)
  | bit_0_B | bit_0_C | bit_0_D | bit_0_E | bit_0_H | bit_0_L | bit_0_A | bit_1_B | bit_1_C | bit_1_D | bit_1_E
  | bit_1_H | bit_1_L | bit_1_A | bit_2_B | bit_2_C | bit_2_D | bit_2_E | bit_2_H | bit_2_L | bit_2_A | bit_3_B
  | bit_3_C | bit_3_D | bit_3_E | bit_3_H | bit_3_L | bit_3_A | bit_4_B | bit_4_C | bit_4_D | bit_4_E | bit_4_H
  | bit_4_L | bit_4_A | bit_5_B | bit_5_C | bit_5_D | bit_5_E | bit_5_H | bit_5_L | bit_5_A | bit_6_B | bit_6_C
  | bit_6_D | bit_6_E | bit_6_H | bit_6_L | bit_6_A | bit_7_B | bit_7_C | bit_7_D | bit_7_E | bit_7_H | bit_7_L
  | bit_7_A => exact .of_c (bitOpnd_keepsC (o := .reg _) h)
  | bit_0_mHL | bit_1_mHL | bit_2_mHL | bit_3_mHL | bit_4_mHL | bit_5_mHL | bit_6_mHL | bit_7_mHL =>
    exact .of_c (bitOpnd_keepsC (o := .mHL) h)
  | add_HL_BC | add_HL_DE | add_HL_HL | add_HL_SP => exact .of_z (addHL_keepsZ h)
  | scf => exact .of_z (scf_keepsZ h)
  | ccf => exact .of_z (ccf_keepsZ h)
  | cpl => exact .of_zc (cpl_keepsZC h).1 (cpl_keepsZC h).2
  | daa => exact .of_n (daa_keepsN h)
  | _ => exact .of_all s t

/-- Settles O53. -/
theorem flagFrame : Obligations.FlagFrame := fun _ _ _ h => exec_flagsKept h

end Sys2Proof.Machine
end

section
/-! PROOF. One line of the request port (R89), and the I/O registers: where they stand, what they read as, and what a
write to one leaves of them all (R84, R85, R90 to R92, R99). -/

namespace Sys2Proof.Machine

open Sys2Proof.Claims

/-! ### One line of IF (R89) -/

theorem getLsbD_one_shiftLeft {i j : Nat} (hi : i < 5) (hj : j < 5) :
    ((1 : BitVec 5) <<< i).getLsbD j = decide (j = i) := by
  interval_cases i <;> interval_cases j <;> rfl

/-- Settles O33. -/
theorem requestOneLine : Obligations.RequestOneLine := by
  refine fun s i hi => ⟨_, _, rfl, rfl, fun j hj => ?_, fun j hj => ?_⟩
  · rw [BitVec.getLsbD_or, getLsbD_one_shiftLeft hi hj, Bool.or_comm]
  · rw [BitVec.getLsbD_and, BitVec.getLsbD_not, getLsbD_one_shiftLeft hi hj, Bool.and_comm, decide_eq_true hj,
      Bool.true_and, decide_not]

/-! ### Where the registers stand (R84, R93) -/

theorem ioReg?_ioAddress (r : IoReg) : ioReg? (ioAddress r) = some r := by cases r <;> rfl

theorem ioReg?_eq_some_iff {a : Word} {r : IoReg} : ioReg? a = some r ↔ a = ioAddress r := by
  refine ⟨fun h => ?_, fun h => h ▸ ioReg?_ioAddress r⟩
  unfold ioReg? at h
  split at h <;> cases h <;> exact BitVec.eq_of_toNat_eq ‹_›

/-- The bound addresses of the I/O row (R93). -/
theorem isSome_ioReg?_iff (a : Word) :
    (ioReg? a).isSome = true ↔ a.toNat = 0xFF00 ∨ (0xFF04 ≤ a.toNat ∧ a.toNat ≤ 0xFF07) ∨ a.toNat = 0xFF0F ∨
      (0xFF40 ≤ a.toNat ∧ a.toNat ≤ 0xFF4B) := by
  constructor
  · intro h
    obtain ⟨r, hr⟩ := Option.isSome_iff_exists.1 h
    obtain rfl := ioReg?_eq_some_iff.1 hr
    cases r <;> decide
  · unfold ioReg?
    generalize a.toNat = n
    rintro (rfl | ⟨h, h'⟩ | rfl | ⟨h, h'⟩)
    · rfl
    · interval_cases n <;> rfl
    · rfl
    · interval_cases n <;> rfl

theorem regionOf_ioAddress (o : Bool) (r : IoReg) : regionOf o (ioAddress r) = .io :=
  region_io.2 (by cases r <;> decide)

theorem State.memRead_ioAddress (s : State) (r : IoReg) : s.memRead (ioAddress r) = .ok (s.ioRead r) := by
  simp only [State.memRead, State.region, regionOf_ioAddress, ioReg?_ioAddress]

theorem State.memWrite_ioAddress (s : State) (r : IoReg) (v : Byte) :
    s.memWrite (ioAddress r) v = .ok (s.ioWrite r v) := by
  simp only [State.memWrite, State.region, regionOf_ioAddress, ioReg?_ioAddress]

/-! ### What the registers read as (R84) -/

/-- P1 as a sum of its fields (R31). -/
theorem p1_byte (p : BitVec 2) (n : BitVec 4) :
    (0b11 : BitVec 2) ++ p ++ n = (0xC0 : Byte) ||| (p.setWidth 8 <<< 4) ||| n.setWidth 8 := by
  revert p n; decide

theorem tac_byte (x : BitVec 3) : (0b11111 : BitVec 5) ++ x = (0xF8 : Byte) ||| x.setWidth 8 := by
  revert x; decide

theorem if_byte (x : BitVec 5) : (0b111 : BitVec 3) ++ x = (0xE0 : Byte) ||| x.setWidth 8 := by
  revert x; decide

/-- STAT as a sum of its fields (R39, R401). -/
theorem stat_byte (x : BitVec 4) (m : PpuMode) :
    (0b1 : BitVec 1) ++ x ++ (0b0 : BitVec 1) ++ modeBits m =
      (0x80 : Byte) ||| (x.setWidth 8 <<< 3) ||| BitVec.ofNat 8 (modeNumber m) := by
  cases m <;> revert x <;> decide

/-- STAT in OAM search, mode 2. -/
theorem stat_oamSearch (x : BitVec 4) :
    (0x80 : Byte) ||| (x.setWidth 8 <<< 3) ||| 0x02 = 0x82 ||| (x.setWidth 8 <<< 3) := by
  revert x; decide

theorem div_byte (d : BitVec 16) : d.extractLsb' 8 8 = BitVec.ofNat 8 (d.toNat / 256) := hi_eq_ofNat d

theorem State.ioRead_eq_ioHolds (s : State) (r : IoReg) : s.ioRead r = ioHolds s r := by
  cases r
  case p1 => exact p1_byte _ _
  case div => exact div_byte _
  case tac => exact tac_byte _
  case if_ => exact if_byte _
  case stat => exact stat_byte _ _
  all_goals rfl

/-- The registers are held by the joypad, the timer, IF and the PPU. -/
theorem State.ioRead_congr {s t : State} (hjoy : t.joy = s.joy) (htimer : t.timer = s.timer)
    (hif : t.int.if_ = s.int.if_) (hppu : t.ppu = s.ppu) (r : IoReg) : t.ioRead r = s.ioRead r := by
  cases r <;> simp only [State.ioRead, hjoy, htimer, hif, hppu]

/-! ### What a write leaves (R85, R90 to R92, R99) -/

/-- LCDC bit 7 goes on: the PPU starts at the top of a frame (R92, R405). -/
theorem State.writeLcdc_on {s : State} {v : Byte} (hs : s.ppu.lcdc.getLsbD 7 = false) (hv : v.getLsbD 7 = true) :
    s.writeLcdc v = (s.setLcdc v).ppuHome := by
  rw [State.writeLcdc, State.lcdOn, hs, hv]
  rfl

/-- LCDC bit 7 goes off: the PPU goes home and the host is told (R92, R406). -/
theorem State.writeLcdc_off {s : State} {v : Byte} (hs : s.ppu.lcdc.getLsbD 7 = true) (hv : v.getLsbD 7 = false) :
    s.writeLcdc v = (s.setLcdc v).ppuHome.emit .blank := by
  rw [State.writeLcdc, State.lcdOn, hs, hv]
  rfl

theorem State.writeLcdc_same {s : State} {v : Byte} (h : s.ppu.lcdc.getLsbD 7 = v.getLsbD 7) :
    s.writeLcdc v = s.setLcdc v := by
  rw [State.writeLcdc, State.lcdOn, h]
  cases v.getLsbD 7 <;> rfl

/-- Whatever bit 7 does, LCDC holds the byte written (R38). -/
theorem State.writeLcdc_ppu_lcdc (s : State) (v : Byte) : (s.writeLcdc v).ppu.lcdc = v := by
  cases hs : s.ppu.lcdc.getLsbD 7 <;> cases hv : v.getLsbD 7
  · rw [State.writeLcdc_same (hs.trans hv.symm)]; rfl
  · rw [State.writeLcdc_on hs hv]; rfl
  · rw [State.writeLcdc_off hs hv]; rfl
  · rw [State.writeLcdc_same (hs.trans hv.symm)]; rfl

theorem p1_written (v : Byte) : 0xC0 ||| ((v.extractLsb' 4 2).setWidth 8 <<< 4) = (v &&& 0x30) ||| 0xC0 := by
  revert v; decide +kernel

theorem tac_written (v : Byte) : 0xF8 ||| (v.extractLsb' 0 3).setWidth 8 = v ||| 0xF8 := by
  revert v; decide +kernel

theorem if_written (v : Byte) : 0xE0 ||| (v.extractLsb' 0 5).setWidth 8 = v ||| 0xE0 := by
  revert v; decide +kernel

theorem stat_written (v : Byte) : 0x80 ||| ((v.extractLsb' 3 4).setWidth 8 <<< 3) = (v &&& 0x78) ||| 0x80 := by
  revert v; decide +kernel

/-- A register read back after a write: its stored bits are those written (R85). -/
theorem State.ioHolds_ioWrite (s : State) (r : IoReg) (v : Byte) : ioHolds (s.ioWrite r v) r = ioAfterWrite s r v := by
  cases r
  case p1 => exact congrArg (· ||| _) (p1_written v)
  case div => show BitVec.ofNat 8 ((0 : BitVec 16).toNat / 256) = 0x00; rfl
  case tac => exact tac_written v
  case if_ => exact if_written v
  case lcdc => exact s.writeLcdc_ppu_lcdc v
  case stat => exact congrArg (· ||| _) (stat_written v)
  all_goals rfl

/-- A write to a register other than LCDC leaves what every other register reads as. -/
theorem State.ioRead_ioWrite_other (s : State) {r q : IoReg} (hq : q ≠ r) (hr : r ≠ .lcdc) (v : Byte) :
    (s.ioWrite r v).ioRead q = s.ioRead q := by
  cases r
  case lcdc => exact absurd rfl hr
  all_goals cases q <;> first | rfl | exact absurd rfl hq

/-- Only LCDC moves the PPU to another mode (R92). -/
theorem State.ioWrite_ppu_mode (s : State) {r : IoReg} (hr : r ≠ .lcdc) (v : Byte) :
    (s.ioWrite r v).ppu.mode = s.ppu.mode := by
  cases r
  case lcdc => exact absurd rfl hr
  all_goals rfl

/-- IE is none of the I/O registers (R87). -/
theorem State.ioWrite_int_ie (s : State) (r : IoReg) (v : Byte) : (s.ioWrite r v).int.ie = s.int.ie := by
  cases r
  case lcdc => rw [State.ioWrite, State.writeLcdc]; split_ifs <;> rfl
  all_goals rfl

/-! ### What a read depends on -/

/-- A read depends on the overlay, the parameters, the cell, the PPU's mode, IE and the registers alone (R71, R98). -/
theorem State.memRead_congr {s t : State} {b : Word} (hover : t.bootOverlay = s.bootOverlay)
    (hparams : t.params = s.params) (hcell : t.cell b = s.cell b) (hmode : t.ppu.mode = s.ppu.mode)
    (hie : regionOf s.bootOverlay b = .ie → t.int.ie = s.int.ie)
    (hio : ∀ q, ioReg? b = some q → t.ioRead q = s.ioRead q) : t.memRead b = s.memRead b := by
  simp only [State.memRead, State.region, State.bootByte, State.gated, State.unmappedRead, hover, hparams, hcell, hmode]
  cases hreg : regionOf s.bootOverlay b
  case io =>
    cases hq : ioReg? b with
    | none => rfl
    | some q => exact congrArg Except.ok (hio q hq)
  case ie => exact congrArg Except.ok (hie hreg)
  all_goals rfl

/-- A write to a register other than LCDC leaves the read of every other address. -/
theorem State.memRead_ioWrite_other (s : State) {r : IoReg} (hr : r ≠ .lcdc) (v : Byte) {b : Word}
    (hb : b ≠ ioAddress r) : (s.ioWrite r v).memRead b = s.memRead b := by
  have core := s.ioWrite_sameCore r v
  refine State.memRead_congr core.bootOverlay core.params ?_ (s.ioWrite_ppu_mode hr v)
    (fun _ => s.ioWrite_int_ie r v) (fun q hq => s.ioRead_ioWrite_other ?_ hr v)
  · rw [State.cell, State.ioWrite_mem, State.cell]
  · rintro rfl
    exact hb (ioReg?_eq_some_iff.1 hq)

/-- Settles O51. -/
theorem ioRegisters : Obligations.IoRegisters := by
  refine ⟨fun a r => ioReg?_eq_some_iff, fun a _ _ => isSome_ioReg?_iff a, fun s r => ?_, fun s r v => ?_⟩
  · rw [State.memRead_ioAddress, State.ioRead_eq_ioHolds]
  · refine ⟨s.ioWrite r v, s.memWrite_ioAddress r v, ?_, ?_, (s.ioWrite_sameCore r v).regs, s.ioWrite_mem r v,
      fun b hb hr => s.memRead_ioWrite_other hr v hb⟩
    · rw [State.memRead_ioAddress, State.ioRead_eq_ioHolds, State.ioHolds_ioWrite]
    · rintro rfl
      rfl

/-- Settles O45: the three cases of LCDC bit 7, then the PPU at rest. -/
theorem lcdSwitch : Obligations.LcdSwitch := by
  refine ⟨fun s v => ⟨fun hs hv => ?_, fun hs hv => ?_, fun h => ?_⟩,
    fun s n hoff => ⟨?_, fun legal => ⟨?_, ?_⟩⟩⟩
  · exact (s.memWrite_ioAddress .lcdc v).trans (congrArg Except.ok (State.writeLcdc_on hs hv))
  · exact (s.memWrite_ioAddress .lcdc v).trans (congrArg Except.ok (State.writeLcdc_off hs hv))
  · exact (s.memWrite_ioAddress .lcdc v).trans (congrArg Except.ok (State.writeLcdc_same h))
  · rw [State.ppuAdvance, State.lcdOn, hoff, if_neg (by decide)]
  · obtain ⟨hmode, -, -, -⟩ := legal.off hoff
    refine (s.memRead_ioAddress .stat).trans (congrArg Except.ok ?_)
    rw [State.ioRead_eq_ioHolds, ioHolds, hmode]
    exact stat_oamSearch _
  · obtain ⟨-, -, -, hly⟩ := legal.off hoff
    exact (s.memRead_ioAddress .ly).trans (congrArg Except.ok hly)

end Sys2Proof.Machine
end
section
/-! PROOF. The bus by address: the gated and the unmapped regions, RAM that reads back, and what the stores of an
instruction leave of every other byte (R75 to R87, R94, R97, R98). -/

namespace Sys2Proof.Machine

/-! ### The regions with a gate, a switch or no storage (R77 to R79, R82, R83) -/

theorem regionOf_boot {a : Word} (h : a.toNat < 0x0100) : regionOf true a = .boot := if_pos ⟨rfl, h⟩

theorem regionOf_vram {a : Word} (h : 0x8000 ≤ a.toNat) (h' : a.toNat < 0xA000) (o : Bool) : regionOf o a = .vram := by
  rw [regionOf, if_neg (by omega), if_neg (by omega), if_pos h']

theorem regionOf_oam {a : Word} (h : 0xFE00 ≤ a.toNat) (h' : a.toNat < 0xFEA0) (o : Bool) : regionOf o a = .oam := by
  unfold regionOf
  repeat rw [if_neg (by omega)]
  rw [if_pos h']

theorem regionOf_unusable {a : Word} (h : 0xFEA0 ≤ a.toNat) (h' : a.toNat < 0xFF00) (o : Bool) :
    regionOf o a = .unusable := by
  unfold regionOf
  repeat rw [if_neg (by omega)]
  rw [if_pos h']

/-- Video RAM and OAM: the read has the gate of pixel transfer, the write has none (R78, R82, R410). -/
theorem State.gatedRegion_access (s : State) {a : Word} (v : Byte)
    (h : s.region a = .vram ∨ s.region a = .oam) (hcell : cellOf a = a.toNat) :
    s.memRead a = .ok (if s.ppu.mode = .pixelTransfer then 0xFF else s.mem.get a.toNat) ∧
      s.memWrite a v = .ok { s with mem := s.mem.set a.toNat v } := by
  rcases h with h | h <;>
    simp only [State.memRead, State.memWrite, h, State.gated, State.cell, State.setCell, hcell, and_self]

/-- Settles O48. -/
theorem gatedRegions : Obligations.GatedRegions := by
  intro s a v
  refine ⟨fun h ho m hm => ?_, ?_, fun h h' hx => ?_, fun h h' => ?_⟩
  · rw [State.memRead, State.region, ho, regionOf_boot h]
    simp only [State.bootByte, hm]
  · rintro (⟨h, h'⟩ | ⟨h, h'⟩)
    · exact s.gatedRegion_access v (.inl (regionOf_vram h h' _)) (cellOf_not_echo (by omega))
    · exact s.gatedRegion_access v (.inr (regionOf_oam h h' _)) (cellOf_not_echo (by omega))
  · have hreg : s.region a = .extRam := region_extRam.2 ⟨h, h'⟩
    have hcell : cellOf a = a.toNat := cellOf_not_echo (by omega)
    simp only [State.memRead, State.memWrite, hreg, hx, if_true, State.cell, State.setCell, hcell, and_self]
  · have hreg : s.region a = .unusable := regionOf_unusable h h' _
    simp only [State.memRead, State.memWrite, hreg, and_self]

/-! ### Unmapped addresses (R93, R94) -/

/-- An unmapped address is external RAM without EXT_RAM, or an I/O address with no register. -/
theorem region_of_unmapped {x : Bool} {a : Word} (h : mapped x a = false) (o : Bool) :
    (regionOf o a = .extRam ∧ x = false) ∨ (regionOf o a = .io ∧ ioReg? a = none) := by
  rw [mapped_eq x o] at h
  cases hreg : regionOf o a <;> rw [hreg] at h
  case extRam => exact .inl ⟨rfl, h⟩
  case io => exact .inr ⟨rfl, Option.isNone_iff_eq_none.1 (Option.isSome_eq_false_iff.1 h)⟩
  all_goals cases h

theorem State.memRead_unmapped {s : State} {a : Word} (h : mapped s.params.extRam a = false) :
    s.memRead a = s.unmappedRead a := by
  rcases region_of_unmapped h s.bootOverlay with ⟨hreg, hx⟩ | ⟨hreg, hi⟩
  · simp only [State.memRead, State.region, hreg, hx, Bool.false_eq_true, if_false]
  · simp only [State.memRead, State.region, hreg, hi]

theorem State.memWrite_unmapped {s : State} {a : Word} (h : mapped s.params.extRam a = false) (v : Byte) :
    s.memWrite a v = s.unmappedWrite a := by
  rcases region_of_unmapped h s.bootOverlay with ⟨hreg, hx⟩ | ⟨hreg, hi⟩
  · simp only [State.memWrite, State.region, hreg, hx, Bool.false_eq_true, if_false]
  · simp only [State.memWrite, State.region, hreg, hi]

/-- Settles O50. -/
theorem unmappedAccess : Obligations.UnmappedAccess := by
  refine fun s a v => ⟨fun hm hb => ?_, fun hm hb => ?_, fun hm => ?_⟩
  · rw [State.memRead_unmapped hm, State.memWrite_unmapped hm]
    exact ⟨if_pos hb, if_pos hb⟩
  · rw [State.memRead_unmapped hm, State.memWrite_unmapped hm, State.unmappedRead, State.unmappedWrite, hb]
    exact ⟨rfl, rfl⟩
  · have answers : s.answers a = true := by rw [State.answers, hm, Bool.or_true]
    exact ⟨_, _, State.memRead_ok answers, State.memWrite_ok answers v⟩

/-! ### A written cell (R80, R81, R86) -/

/-- Writing a storage cell leaves the read of every address of another cell. -/
theorem State.memRead_setCell_other (s : State) {a b : Word} (h : cellOf b ≠ cellOf a) (v : Byte) :
    (s.setCell a v).memRead b = s.memRead b :=
  State.memRead_congr rfl rfl (s.cell_setCell_other h v) rfl (fun _ => rfl)
    fun _ _ => State.ioRead_congr rfl rfl rfl rfl _

/-- A plain RAM byte reads back at every plain RAM address of its cell. -/
theorem State.memRead_setCell_same_cell {s : State} (hwf : s.mem.wf) {a b : Word} (hb : PlainRam b)
    (h : cellOf b = cellOf a) (v : Byte) : (s.setCell a v).memRead b = .ok v := by
  rw [State.memRead_plainRam _ hb, State.cell, h]
  exact congrArg Except.ok (State.cell_setCell_same hwf a v)

/-- Settles O49: the echo 0x2000 above, or the work RAM byte 0x2000 below, is the same cell. -/
theorem ramReadsBack : Obligations.RamReadsBack := by
  intro s a v hwf ha
  refine ⟨s.setCell a v, s.memWrite_plainRam ha v, State.memRead_setCell_same_cell hwf ha rfl v, fun h => ?_,
    fun h h' => ?_, fun b hb => s.memRead_setCell_other hb v⟩
  · have e : (a + 0x2000).toNat = a.toNat + 0x2000 := by bv_omega
    have same : cellOf (a + 0x2000) = cellOf a := by
      rw [cellOf_echo (by omega) (by omega), cellOf_not_echo (by omega)]; omega
    exact State.memRead_setCell_same_cell hwf (.inl (by omega)) same v
  · have e : (a - 0x2000).toNat = a.toNat - 0x2000 := by bv_omega
    have same : cellOf (a - 0x2000) = cellOf a := by
      rw [cellOf_echo h h', cellOf_not_echo (by omega)]; omega
    exact State.memRead_setCell_same_cell hwf (.inl (by omega)) same v

/-! ### The stores of an instruction (R97, R98) -/

theorem regionOf_ne_ie {a : Word} (h : a.toNat < 0xFFFF) (o : Bool) : regionOf o a ≠ .ie := by
  rw [regionOf, if_pos h]
  repeat' split
  all_goals decide

/-- A bus write to another cell, and not to LCDC, leaves what an address reads as. -/
theorem State.memRead_wrote_other (s : State) {a b : Word} (hcell : cellOf a ≠ cellOf b) (hlcdc : a ≠ 0xFF40)
    (v : Byte) : (s.wrote a v).memRead b = s.memRead b := by
  have hab : b ≠ a := fun h => hcell (congrArg cellOf h.symm)
  rcases s.wrote_cases a v with h | ⟨-, -, h⟩ | ⟨r, hr, h⟩ | ⟨hie, h⟩ <;> rw [h]
  · exact s.memRead_setCell_other hcell.symm v
  · obtain rfl := ioReg?_eq_some_iff.1 hr
    exact s.memRead_ioWrite_other (by rintro rfl; exact hlcdc rfl) v hab
  · refine State.memRead_congr rfl rfl rfl rfl (fun hb => ?_) fun _ _ => State.ioRead_congr rfl rfl rfl rfl _
    exact absurd hb (regionOf_ne_ie (by bv_omega) _)

theorem State.memRead_writes_other (ws : List (Word × Byte)) (s : State) {b : Word}
    (h : ∀ a ∈ ws.map Prod.fst, cellOf a ≠ cellOf b ∧ a ≠ 0xFF40) : (s.writes ws).memRead b = s.memRead b := by
  induction ws generalizing s with
  | nil => rfl
  | cons x ws ih =>
    obtain ⟨⟨hcell, hlcdc⟩, hrest⟩ := List.forall_mem_cons.1 h
    exact (ih _ hrest).trans (s.memRead_wrote_other hcell hlcdc x.2)

theorem State.memRead_withCpu (s : State) (r : Regs) (ime : Bool) (p : ImeReq) (run : RunState) (n : Nat) (b : Word) :
    (s.withCpu r ime p run n).memRead b = s.memRead b :=
  State.memRead_congr rfl rfl rfl rfl (fun _ => rfl) fun _ _ => State.ioRead_congr rfl rfl rfl rfl _

/-- Settles O52: an instruction's effect is its stores through the bus and the CPU's own part, which no read sees. -/
theorem storedBytesOnly : Obligations.StoredBytesOnly := by
  intro i s t b h hspan
  obtain ⟨ws, r, ime, p, run, k, hs, -, -, rfl⟩ := exec_effect h
  rw [State.memRead_withCpu, State.memRead_writes_other ws s (hs ▸ hspan)]

/-- Settles O55. -/
theorem instructionFrame : Obligations.InstructionFrame := by
  intro i s t h
  have effect := exec_effect h
  obtain ⟨hqueue, hkeys, hclock, hfault, hover, hparams, hpipe⟩ := effect.frame
  exact ⟨hqueue, hkeys, hclock, hfault, hover, hparams, hpipe, fun _ ha => effect.rom ha,
    fun hnone => (hnone ▸ effect).silent⟩

end Sys2Proof.Machine
end

section
/-! PROOF. The decoder and the encoder: each undoes the other, and the eleven unassigned bytes (R120 to R134). -/

namespace Sys2Proof.Machine

/-! ### The quadrants of the opcode byte (R127) -/

/-- The opcode byte of the fields x, y, z (R127). -/
def opcode (x : Nat) (y z : Oct) : Byte := BitVec.ofNat 8 (64 * x + 8 * y.toNat + z.toNat)

theorem opcode_fields (op : Byte) : opcode (fieldX op) (fieldY op) (fieldZ op) = op := by
  revert op; decide +kernel

/-- What an opcode byte decodes to, by its quadrant (R128 to R131). -/
theorem decodeOp_cases (op b1 b2 : Byte) : ∃ y z,
    (op = opcode 0 y z ∧ decodeOp op b1 b2 = decodeX0 y z b1 b2) ∨
    (op = opcode 1 y z ∧ decodeOp op b1 b2 = ldInstr (opnd8Of y) (opnd8Of z)) ∨
    (op = opcode 2 y z ∧ decodeOp op b1 b2 = aluInstr (aluOpOf y) (opnd8Of z)) ∨
    (op = opcode 3 y z ∧ decodeOp op b1 b2 = decodeX3 op y z b1 b2) := by
  have hop := opcode_fields op
  have hlt : fieldX op < 4 := (op.extractLsb' 6 2).isLt
  refine ⟨fieldY op, fieldZ op, ?_⟩
  unfold decodeOp
  generalize fieldX op = x at hop hlt ⊢
  match x with
  | 0 => exact .inl ⟨hop.symm, rfl⟩
  | 1 => exact .inr (.inl ⟨hop.symm, rfl⟩)
  | 2 => exact .inr (.inr (.inl ⟨hop.symm, rfl⟩))
  | 3 => exact .inr (.inr (.inr ⟨hop.symm, rfl⟩))

/-! ### The encoding of what is decoded -/

/-- The bytes of an instruction of a format: the opcode byte, then nothing, the byte after it, or the word of the two
bytes after it, low byte first (R120, R122, R123). -/
def instrBytes (f : Format) (op b1 b2 : Byte) : List Byte :=
  match f with
  | .op => [op]
  | .opN | .opE | .cb => [op, b1]
  | .opNN => [op, lo (pair b2 b1), hi (pair b2 b1)]

theorem encode_decodeCb (op2 : Byte) : encode (decodeCb op2) = [0xCB, op2] := by
  revert op2; decide +kernel

theorem encode_decodeX0 (y z : Oct) (b1 b2 : Byte) :
    encode (decodeX0 y z b1 b2) = instrBytes (formatOf (opcode 0 y z)) (opcode 0 y z) b1 b2 := by
  cases z <;> cases y <;> rfl

theorem encode_ldInstr (y z : Oct) (b1 b2 : Byte) :
    encode (ldInstr (opnd8Of y) (opnd8Of z)) = instrBytes (formatOf (opcode 1 y z)) (opcode 1 y z) b1 b2 := by
  cases z <;> cases y <;> rfl

theorem encode_aluInstr (y z : Oct) (b1 b2 : Byte) :
    encode (aluInstr (aluOpOf y) (opnd8Of z)) = instrBytes (formatOf (opcode 2 y z)) (opcode 2 y z) b1 b2 := by
  cases z <;> cases y <;> rfl

theorem encode_decodeX3 (y z : Oct) (b1 b2 : Byte) :
    encode (decodeX3 (opcode 3 y z) y z b1 b2) = instrBytes (formatOf (opcode 3 y z)) (opcode 3 y z) b1 b2 := by
  cases z <;> cases y
  case o3.o1 => exact encode_decodeCb b1
  all_goals rfl

/-- What an opcode byte decodes to has as its encoding the bytes it was decoded from. -/
theorem encode_decodeOp (op b1 b2 : Byte) : encode (decodeOp op b1 b2) = instrBytes (formatOf op) op b1 b2 := by
  obtain ⟨y, z, ⟨rfl, h⟩ | ⟨rfl, h⟩ | ⟨rfl, h⟩ | ⟨rfl, h⟩⟩ := decodeOp_cases op b1 b2 <;> rw [h]
  · exact encode_decodeX0 y z b1 b2
  · exact encode_ldInstr y z b1 b2
  · exact encode_aluInstr y z b1 b2
  · exact encode_decodeX3 y z b1 b2

/-! ### Well-formedness of what is decoded -/

theorem decodeCb_wellFormed (op2 : Byte) : (decodeCb op2).wellFormed = true := by
  revert op2; decide +kernel

theorem decodeX3_wellFormed (y z : Oct) (b1 b2 : Byte) : (decodeX3 (opcode 3 y z) y z b1 b2).wellFormed = true := by
  cases z <;> cases y
  case o3.o1 => exact decodeCb_wellFormed b1
  all_goals rfl

/-- A row never gives the bare 0xCB, and gives `illegal` only with one of the eleven bytes (R134). -/
theorem decodeOp_wellFormed (op b1 b2 : Byte) : (decodeOp op b1 b2).wellFormed = true := by
  obtain ⟨y, z, ⟨-, h⟩ | ⟨-, h⟩ | ⟨-, h⟩ | ⟨rfl, h⟩⟩ := decodeOp_cases op b1 b2 <;> rw [h]
  · cases z <;> cases y <;> rfl
  · cases z <;> cases y <;> rfl
  · cases z <;> cases y <;> rfl
  · exact decodeX3_wellFormed y z b1 b2

/-! ### Unassigned opcodes (R134) -/

theorem formatOf_unassigned {op : Byte} (h : illegalOpcodes.contains op = true) : formatOf op = .op := by
  revert h; revert op; decide +kernel

theorem decodeOp_unassigned {op : Byte} (h : illegalOpcodes.contains op = true) (b1 b2 : Byte) :
    decodeOp op b1 b2 = .illegal op := by
  simp only [illegalOpcodes, List.contains_iff_mem, List.mem_cons, List.not_mem_nil, or_false] at h
  rcases h with rfl | rfl | rfl | rfl | rfl | rfl | rfl | rfl | rfl | rfl | rfl <;> rfl

/-- Only the eleven bytes give the unassigned instruction, and it carries its own byte (R134). -/
theorem decodeOp_eq_illegal_iff {op b1 b2 x : Byte} :
    decodeOp op b1 b2 = .illegal x ↔ x = op ∧ illegalOpcodes.contains op = true := by
  refine ⟨fun h => ?_, fun ⟨hx, h⟩ => hx ▸ decodeOp_unassigned h b1 b2⟩
  have hw := decodeOp_wellFormed op b1 b2
  have he := encode_decodeOp op b1 b2
  rw [h] at hw he
  have hx : x = op := by
    cases hf : formatOf op <;> rw [hf] at he
    case op => exact List.singleton_inj.1 he
    all_goals cases he
  exact ⟨hx, hx ▸ hw⟩

/-! ### The decoder by format (R121) -/

theorem formatOf_eq_cb {op : Byte} (h : formatOf op = .cb) : op = 0xCB := by
  revert h; revert op; decide +kernel

theorem decode_op {op : Byte} (h : formatOf op = .op) (rest : List Byte) :
    decode (op :: rest) = .ok (decodeOp op 0 0) rest := by
  simp only [decode, h]

/-- A row with a word operand: its two bytes, the low one first, are put together again (R123). -/
theorem decode_word {op : Byte} {f : Word → Instr} (h : formatOf op = .opNN)
    (hf : ∀ b1 b2, decodeOp op b1 b2 = f (pair b2 b1)) (nn : Word) (rest : List Byte) :
    decode (op :: lo nn :: hi nn :: rest) = .ok (f nn) rest := by
  simp only [decode, h, hf, pair_hi_lo]

/-- What the decoder accepts: the byte 0xCB alone, or the bytes of an instruction of a row and what follows them. -/
theorem decode_inv {bs rest : List Byte} {i : Instr} (h : decode bs = .ok i rest) :
    (bs = [0xCB] ∧ i = .prefix_CB ∧ rest = []) ∨
      ∃ op b1 b2, i = decodeOp op b1 b2 ∧ bs = instrBytes (formatOf op) op b1 b2 ++ rest := by
  unfold decode at h
  split at h
  · cases h
  split at h
  · cases h; exact .inr ⟨_, 0, 0, rfl, by simp [instrBytes, *]⟩
  · cases h; exact .inr ⟨_, _, 0, rfl, by simp [instrBytes, *]⟩
  · cases h; exact .inr ⟨_, _, 0, rfl, by simp [instrBytes, *]⟩
  · cases h; exact .inr ⟨_, _, _, rfl, by simp [instrBytes, *]⟩
  · cases h; exact .inr ⟨_, _, 0, rfl, by simp [instrBytes, *]⟩
  · rename_i hf
    cases h; exact .inl ⟨by rw [formatOf_eq_cb hf], rfl, rfl⟩
  · cases h

/-! ### Round trips -/

/-- Settles O1. The opcode bytes of an encoding are literal, so `decode` computes on them; what does not compute is the
byte an unassigned instruction carries and a word taken apart into its two bytes. -/
theorem decodeOfEncode : Obligations.DecodeOfEncode := by
  intro i rest hw
  cases i with
  | prefix_CB => cases hw
  | illegal op =>
    show decode (op :: rest) = _
    rw [decode_op (formatOf_unassigned hw), decodeOp_unassigned hw]
  | ld_BC_nn nn | ld_mnn_SP nn | ld_DE_nn nn | ld_HL_nn nn | ld_SP_nn nn | jp_NZ_nn nn | jp_nn nn | call_NZ_nn nn
  | jp_Z_nn nn | call_Z_nn nn | call_nn nn | jp_NC_nn nn | call_NC_nn nn | jp_C_nn nn | call_C_nn nn | ld_mnn_A nn
  | ld_A_mnn nn => exact decode_word rfl (fun _ _ => rfl) nn rest
  | _ => rfl

/-- Settles O2. -/
theorem encodeOfDecode : Obligations.EncodeOfDecode := by
  intro bs i rest h
  rcases decode_inv h with ⟨rfl, rfl, rfl⟩ | ⟨op, b1, b2, rfl, rfl⟩
  · decide
  · rw [encode_decodeOp]
    refine ⟨rfl, ?_⟩
    cases formatOf op <;> simp [instrBytes]

/-- Settles O4. -/
theorem unassignedOpcodes : Obligations.UnassignedOpcodes := by
  refine ⟨fun op b1 b2 => ?_, fun op b1 b2 x h => (decodeOp_eq_illegal_iff.1 h).1, fun op2 x h => ?_⟩
  · simp only [decodeOp_eq_illegal_iff, exists_eq_left, illegalOpcodes, List.contains_iff_mem, List.mem_cons,
      List.not_mem_nil, or_false]
  · have he := encode_decodeCb op2
    rw [h] at he
    cases he

/-- Settles O3: closed words, which `decode` computes on. -/
theorem decodedWords : Obligations.DecodedWords := by
  unfold Obligations.DecodedWords
  decide

end Sys2Proof.Machine
end

section
/-! PROOF. pc over the fetch and the instruction fetched (R136), and the byte 0xCB as an instruction (R336). -/

namespace Sys2Proof.Machine

/-! ### The fetch and the length (R17, R121) -/

theorem except_bind_eq_ok {ε α β : Type} {x : Except ε α} {f : α → Except ε β} {b : β} (h : (x >>= f) = .ok b) :
    ∃ a, x = .ok a ∧ f a = .ok b := by
  cases x with
  | error e => cases h
  | ok a => exact ⟨a, rfl, h⟩

/-- What the fetch answers stands in a row of the map, and pc has moved by its length (R121, R122). -/
theorem State.fetchInstr_decoded {s t : State} {i : Instr} (h : s.fetchInstr = .ok (i, t)) :
    (∃ op b1 b2, i = decodeOp op b1 b2) ∧ t = s.setPC (s.regs.pc + BitVec.ofNat 16 (encode i).length) := by
  unfold State.fetchInstr at h
  obtain ⟨⟨op, s1⟩, h0, h⟩ := except_bind_eq_ok h
  obtain ⟨-, rfl⟩ := State.fetch8_inv h0
  cases hf : formatOf op <;> simp only [hf] at h
  case op =>
    cases h
    exact ⟨⟨op, 0, 0, rfl⟩, by simp [encode_decodeOp, hf, instrBytes]⟩
  all_goals
    obtain ⟨⟨b1, s2⟩, h1, h⟩ := except_bind_eq_ok h
    obtain ⟨-, rfl⟩ := State.fetch8_inv h1
  case opNN =>
    obtain ⟨⟨b2, s3⟩, h2, h⟩ := except_bind_eq_ok h
    obtain ⟨-, rfl⟩ := State.fetch8_inv h2
    cases h
    exact ⟨⟨op, b1, b2, rfl⟩, by simp [encode_decodeOp, hf, instrBytes, BitVec.add_assoc]⟩
  all_goals
    cases h
    exact ⟨⟨op, b1, 0, rfl⟩, by simp [encode_decodeOp, hf, instrBytes, BitVec.add_assoc]⟩

/-! ### Outcomes that leave pc alone -/

/-- Where an outcome is a next state, its pc is that of `s`. -/
def PcKept (s : State) (r : Result) : Prop := ∀ t, r = .next t → t.regs.pc = s.regs.pc

theorem pcKept_next {s u : State} (h : u.regs.pc = s.regs.pc) : PcKept s (.next u) := by
  rintro t ⟨⟩
  exact h

theorem pcKept_fault {s : State} {f : Fault} : PcKept s (.fault f) :=
  fun _ h => nomatch h

theorem pcKept_read {s : State} {a : Word} {k : Byte → Result} (h : ∀ v, PcKept s (k v)) :
    PcKept s (andThen (s.memRead a) k) := fun t ht => h _ t (andThen_memRead.1 ht).2

theorem pcKept_write {s : State} {a : Word} {v : Byte} {k : State → Result}
    (h : ∀ u : State, u.regs = s.regs → PcKept s (k u)) : PcKept s (andThen (s.memWrite a v) k) :=
  fun t ht => h _ (s.wrote_regs a v) t (andThen_memWrite.1 ht).2

section Shapes

variable (s : State)

theorem ldRegReg_pcKept (dst src : Reg8) : PcKept s (ldRegReg dst src s) := pcKept_next (by simp)

theorem ldRegImm_pcKept (dst : Reg8) (n : Byte) : PcKept s (ldRegImm dst n s) := pcKept_next (by simp)

theorem loadReg_pcKept (dst : Reg8) (a : Word) (n : Nat) : PcKept s (loadReg dst a n s) :=
  pcKept_read fun _ => pcKept_next (by simp)

theorem storeByte_pcKept (a : Word) (v : Byte) (n : Nat) : PcKept s (storeByte a v n s) :=
  pcKept_write fun _ h => pcKept_next (by simp [h])

theorem loadStepHL_pcKept (d : Word) : PcKept s (loadStepHL d s) := pcKept_read fun _ => pcKept_next (by simp)

theorem storeStepHL_pcKept (d : Word) : PcKept s (storeStepHL d s) :=
  pcKept_write fun _ h => pcKept_next (by simp [h])

theorem ldPairImm_pcKept (p : Reg16) (nn : Word) : PcKept s (ldPairImm p nn s) := pcKept_next (by simp)

theorem storeSP_pcKept (nn : Word) : PcKept s (storeSP nn s) := by
  intro t h
  obtain ⟨u, hu, h⟩ := andThen_next_iff.1 h
  rw [State.memWrite16_eq] at hu
  split at hu
  · split at hu
    · cases hu; cases h
      simp
    · cases hu
  · cases hu

theorem pushPair_pcKept (p : StkReg) : PcKept s (pushPair p s) := by
  intro t h
  obtain ⟨u, hu, h⟩ := andThen_next_iff.1 h
  obtain ⟨-, -, rfl⟩ := State.push16_inv hu
  cases h
  simp

theorem popPair_pcKept (p : StkReg) : PcKept s (popPair p s) := by
  intro t h
  obtain ⟨⟨v, u⟩, hu, h⟩ := andThen_next_iff.1 h
  obtain ⟨-, -, -, rfl⟩ := State.pop16_inv hu
  cases h
  simp

theorem aluReg_pcKept (op : AluOp) (r : Reg8) : PcKept s (aluReg op r s) := pcKept_next rfl

theorem aluInd_pcKept (op : AluOp) : PcKept s (aluInd op s) := pcKept_read fun _ => pcKept_next rfl

theorem aluImm_pcKept (op : AluOp) (n : Byte) : PcKept s (aluImm op n s) := pcKept_next rfl

theorem modifyReg_pcKept (f : Byte → Byte × Flags) (r : Reg8) (n : Nat) : PcKept s (modifyReg f r n s) :=
  pcKept_next (by simp)

theorem modifyInd_pcKept (f : Byte → Byte × Flags) (n : Nat) : PcKept s (modifyInd f n s) :=
  pcKept_read fun _ => pcKept_write fun _ h => pcKept_next (by simp [h])

theorem incReg_pcKept (r : Reg8) : PcKept s (incReg r s) := modifyReg_pcKept s (fun v => inc8 v s.flags) r 4

theorem decReg_pcKept (r : Reg8) : PcKept s (decReg r s) := modifyReg_pcKept s (fun v => dec8 v s.flags) r 4

theorem addHL_pcKept (p : Reg16) : PcKept s (addHL p s) := pcKept_next (by simp)

theorem incPair_pcKept (p : Reg16) : PcKept s (incPair p s) := pcKept_next (by simp)

theorem decPair_pcKept (p : Reg16) : PcKept s (decPair p s) := pcKept_next (by simp)

theorem rotAcc_pcKept (op : RotOp) : PcKept s (rotAcc op s) := pcKept_next rfl

theorem rotOpnd_pcKept (op : RotOp) (o : Opnd8) : PcKept s (rotOpnd op o s) := by
  cases o with
  | reg r => exact modifyReg_pcKept s (fun v => rotApply op v s.flags.c) r 8
  | mHL => exact modifyInd_pcKept s _ 16

theorem bitOpnd_pcKept (n : Nat) (o : Opnd8) : PcKept s (bitOpnd n o s) := by
  cases o with
  | reg r => exact pcKept_next rfl
  | mHL => exact pcKept_read fun _ => pcKept_next rfl

theorem replaceOpnd_pcKept (f : Byte → Byte) (o : Opnd8) : PcKept s (replaceOpnd f o s) := by
  cases o with
  | reg r => exact pcKept_next (by simp)
  | mHL => exact pcKept_read fun _ => storeByte_pcKept s s.hl _ 16

/-- A conditional that is not taken leaves pc alone (R310). -/
theorem conditional_pcKept {cc : Cond} (h : s.holds cc = false) (f : State → Result) (n : Nat) :
    PcKept s (conditional cc f n s) := by
  rw [conditional_not_taken h]
  exact pcKept_next rfl

theorem runCb_pcKept (op2 : Byte) : PcKept s (runCb op2 s) := by
  unfold runCb
  split
  · exact rotOpnd_pcKept s _ _
  · exact bitOpnd_pcKept s _ _
  · exact replaceOpnd_pcKept s _ _
  · exact replaceOpnd_pcKept s _ _

end Shapes

/-! ### The rows of the map -/

theorem ldInstr_pcKept (s : State) (o p : Opnd8) : PcKept s (exec (ldInstr o p) s) := by
  cases o with
  | reg r => cases p with
    | reg q => cases r <;> cases q <;> exact ldRegReg_pcKept s _ _
    | mHL => cases r <;> exact loadReg_pcKept s _ _ _
  | mHL => cases p with
    | reg q => cases q <;> exact storeByte_pcKept s _ _ _
    | mHL => exact pcKept_next rfl

theorem aluInstr_pcKept (s : State) (op : AluOp) (o : Opnd8) : PcKept s (exec (aluInstr op o) s) := by
  cases o with
  | reg r => cases op <;> cases r <;> exact aluReg_pcKept s _ _
  | mHL => cases op <;> exact aluInd_pcKept s _

theorem incInstr_pcKept (s : State) (o : Opnd8) : PcKept s (exec (incInstr o) s) := by
  cases o with
  | reg r => cases r <;> exact incReg_pcKept s _
  | mHL => exact modifyInd_pcKept s _ _

theorem decInstr_pcKept (s : State) (o : Opnd8) : PcKept s (exec (decInstr o) s) := by
  cases o with
  | reg r => cases r <;> exact decReg_pcKept s _
  | mHL => exact modifyInd_pcKept s _ _

theorem ldImmInstr_pcKept (s : State) (n : Byte) (o : Opnd8) : PcKept s (exec (ldImmInstr n o) s) := by
  cases o with
  | reg r => cases r <;> exact ldRegImm_pcKept s _ _
  | mHL => exact storeByte_pcKept s _ _ _

/-- Quadrant x = 0: of its rows only the relative jumps move pc (R128). -/
theorem decodeX0_pcKept (s : State) (y z : Oct) (b1 b2 : Byte) (h : takesBranch (decodeX0 y z b1 b2) s = false) :
    PcKept s (exec (decodeX0 y z b1 b2) s) := by
  cases z with
  | o0 => cases y with
    | o0 | o2 => exact pcKept_next rfl
    | o1 => exact storeSP_pcKept s _
    | o3 => cases h
    | o4 | o5 | o6 | o7 => exact conditional_pcKept s (by exact h) _ _
  | o1 => cases y with
    | o0 | o2 | o4 | o6 => exact ldPairImm_pcKept s _ _
    | o1 | o3 | o5 | o7 => exact addHL_pcKept s _
  | o2 => cases y with
    | o0 | o2 => exact storeByte_pcKept s _ _ _
    | o4 | o6 => exact storeStepHL_pcKept s _
    | o1 | o3 => exact loadReg_pcKept s _ _ _
    | o5 | o7 => exact loadStepHL_pcKept s _
  | o3 => cases y with
    | o0 | o2 | o4 | o6 => exact incPair_pcKept s _
    | o1 | o3 | o5 | o7 => exact decPair_pcKept s _
  | o4 => exact incInstr_pcKept s _
  | o5 => exact decInstr_pcKept s _
  | o6 => exact ldImmInstr_pcKept s b1 _
  | o7 => cases y with
    | o0 | o1 | o2 | o3 => exact rotAcc_pcKept s _
    | o4 => exact modifyReg_pcKept s (fun v => daa8 v s.flags) .a 4
    | o5 | o6 | o7 => exact pcKept_next rfl

/-- Quadrant x = 3: jumps, calls, returns and restarts move pc, the others do not, nor do the prefixed rows (R131). -/
theorem decodeX3_pcKept (s : State) (op : Byte) (y z : Oct) (b1 b2 : Byte)
    (h : takesBranch (decodeX3 op y z b1 b2) s = false) : PcKept s (exec (decodeX3 op y z b1 b2) s) := by
  cases z with
  | o0 => cases y with
    | o0 | o1 | o2 | o3 => exact conditional_pcKept s (by exact h) _ _
    | o4 => exact storeByte_pcKept s _ _ _
    | o5 | o7 => exact pcKept_next rfl
    | o6 => exact loadReg_pcKept s _ _ _
  | o1 => cases y with
    | o0 | o2 | o4 | o6 => exact popPair_pcKept s _
    | o1 | o3 | o5 => cases h
    | o7 => exact pcKept_next rfl
  | o2 => cases y with
    | o0 | o1 | o2 | o3 => exact conditional_pcKept s (by exact h) _ _
    | o4 | o5 => exact storeByte_pcKept s _ _ _
    | o6 | o7 => exact loadReg_pcKept s _ _ _
  | o3 => cases y with
    | o0 => cases h
    | o1 =>
      show PcKept s (exec (decodeCb b1) s)
      rw [exec_decodeCb]
      exact runCb_pcKept s b1
    | o2 | o3 | o4 | o5 => exact pcKept_fault
    | o6 | o7 => exact pcKept_next rfl
  | o4 => cases y with
    | o0 | o1 | o2 | o3 => exact conditional_pcKept s (by exact h) _ _
    | o4 | o5 | o6 | o7 => exact pcKept_fault
  | o5 => cases y with
    | o0 | o2 | o4 | o6 => exact pushPair_pcKept s _
    | o1 => cases h
    | o3 | o5 | o7 => exact pcKept_fault
  | o6 => cases y <;> exact aluImm_pcKept s _ b1
  | o7 => cases y <;> cases h

theorem decodeOp_pcKept (s : State) (op b1 b2 : Byte) (h : takesBranch (decodeOp op b1 b2) s = false) :
    PcKept s (exec (decodeOp op b1 b2) s) := by
  obtain ⟨y, z, ⟨-, hi⟩ | ⟨-, hi⟩ | ⟨-, hi⟩ | ⟨-, hi⟩⟩ := decodeOp_cases op b1 b2 <;> rw [hi] at h ⊢
  · exact decodeX0_pcKept s y z b1 b2 h
  · exact ldInstr_pcKept s _ _
  · exact aluInstr_pcKept s _ _
  · exact decodeX3_pcKept s op y z b1 b2 h

/-- Settles O6. The fetch puts pc behind the encoding, and an instruction of a row that takes no branch leaves it there;
the length is that of the row's format. -/
theorem pcAdvancesByLength : Obligations.PcAdvancesByLength := by
  refine ⟨fun s s2 t i hf he hb => ?_, fun op b1 b2 => ?_⟩
  · obtain ⟨⟨op, b1, b2, rfl⟩, rfl⟩ := State.fetchInstr_decoded hf
    exact decodeOp_pcKept _ op b1 b2 hb t he
  · rw [encode_decodeOp]
    cases formatOf op <;> rfl

/-! ### The byte 0xCB as an instruction (R336) -/

theorem exec_prefix_CB {s : State} (h : s.answers s.regs.pc = true) :
    exec .prefix_CB s = exec (decodeCb (s.readByte s.regs.pc)) (s.setPC (s.regs.pc + 1)) := by
  show andThen s.fetch8 _ = _
  rw [State.fetch8_eq, if_pos h, exec_decodeCb]
  rfl

theorem modifyInd_completes {s : State} (h : s.answers s.hl = true) (f : Byte → Byte × Flags) (n : Nat) :
    ∃ t, modifyInd f n s = .next t := by
  rw [modifyInd, State.memRead_ok h, andThen_ok, State.memWrite_ok h]
  exact ⟨_, rfl⟩

theorem rotOpnd_completes {s : State} (h : s.answers s.hl = true) (op : RotOp) (o : Opnd8) :
    ∃ t, rotOpnd op o s = .next t := by
  cases o with
  | reg r => exact ⟨_, rfl⟩
  | mHL => exact modifyInd_completes h _ 16

theorem bitOpnd_completes {s : State} (h : s.answers s.hl = true) (n : Nat) (o : Opnd8) :
    ∃ t, bitOpnd n o s = .next t := by
  cases o with
  | reg r => exact ⟨_, rfl⟩
  | mHL =>
    rw [bitOpnd, State.memRead_ok h]
    exact ⟨_, rfl⟩

theorem replaceOpnd_completes {s : State} (h : s.answers s.hl = true) (f : Byte → Byte) (o : Opnd8) :
    ∃ t, replaceOpnd f o s = .next t := by
  cases o with
  | reg r => exact ⟨_, rfl⟩
  | mHL =>
    rw [replaceOpnd, State.memRead_ok h, andThen_ok, State.memWrite_ok h]
    exact ⟨_, rfl⟩

theorem runCb_completes {s : State} (h : s.answers s.hl = true) (op2 : Byte) : ∃ t, runCb op2 s = .next t := by
  unfold runCb
  split
  · exact rotOpnd_completes h _ _
  · exact bitOpnd_completes h _ _
  · exact replaceOpnd_completes h _ _
  · exact replaceOpnd_completes h _ _

/-- Settles O31. -/
theorem prefixRunsPair : Obligations.PrefixRunsPair := by
  refine fun s hpc => ⟨exec_prefix_CB hpc, fun hhl => ?_⟩
  rw [exec_prefix_CB hpc, exec_decodeCb]
  exact runCb_completes hhl _

end Sys2Proof.Machine
end

section
/-! PROOF. The 8-bit primitives of arithmetic and logic (R151 to R159, R174) as formulas over numbers, and the whole next
state of the instructions that run them. -/

namespace Sys2Proof.Machine

open Sys2Proof.Claims

/-! ### Bytes and flags as numbers -/

theorem packFlags_eq_flagByte (x : Flags) : packFlags x = flagByte x.z x.n x.h x.c := by
  obtain ⟨z, n, h, c⟩ := x
  revert z n h c; decide

theorem nibble_eq (a : Byte) : nibble a = a.toNat % 16 := Nat.and_two_pow_sub_one_eq_mod a.toNat 4

@[simp] theorem bitByte_toNat (b : Bool) : (bitByte b).toNat = b.toNat := by cases b <;> rfl

theorem byte_beq_zero (v : Byte) : (v == 0) = (v.toNat == 0) := by
  rw [Bool.eq_iff_iff, beq_iff_eq, beq_iff_eq, ← BitVec.toNat_inj]
  rfl

theorem byte_eq_ofNat {v : Byte} {n : Nat} (h : v.toNat = n) : v = BitVec.ofNat 8 n := by
  rw [← h, BitVec.ofNat_toNat, BitVec.setWidth_eq]

/-! ### The eight operations of `alu(y)` (R220) -/

/-- The result of each primitive is the number of its formula. -/
theorem aluApply_toNat (op : AluOp) (a b : Byte) (c : Bool) :
    (aluApply op a b c).1.toNat = (aluSpec op a.toNat b.toNat c.toNat).1 := by
  have ha := a.isLt
  have hb := b.isLt
  have hc := c.toNat_le
  cases op with
  | add => exact BitVec.toNat_add a b
  | adc => simp [aluApply, aluSpec, adc8]
  | sub =>
    simp only [aluApply, aluSpec, sub8, BitVec.toNat_sub]
    omega
  | sbc =>
    simp only [aluApply, aluSpec, sbc8, BitVec.toNat_sub, bitByte_toNat]
    omega
  | and => exact BitVec.toNat_and a b
  | xor => exact BitVec.toNat_xor a b
  | or => exact BitVec.toNat_or a b
  | cp => rfl

/-- The difference is zero where the bytes are equal (R174). -/
theorem byte_sub_beq_zero (a b : Byte) : (a - b == 0) = (a.toNat == b.toNat) := by
  rw [Bool.eq_iff_iff, beq_iff_eq, beq_iff_eq, BitVec.toNat_inj]
  exact sub_eq_zero

/-- The flags of each primitive: Z by the result's number, H and C by the nibble and byte sums. -/
theorem aluApply_flags (op : AluOp) (a b : Byte) (c : Bool) :
    packFlags (aluApply op a b c).2 = (aluSpec op a.toNat b.toNat c.toNat).2 := by
  have hz := byte_beq_zero (aluApply op a b c).1
  rw [aluApply_toNat] at hz
  rw [packFlags_eq_flagByte]
  cases op with
  | cp => simp only [aluApply, aluSpec, cp8, sub8, byte_sub_beq_zero, nibble_eq]
  | _ =>
    simp only [aluApply, aluSpec, add8, adc8, sub8, sbc8, and8, xor8, or8, nibble_eq] at hz ⊢
    rw [hz]

theorem aluA_charge (op : AluOp) (s : State) (v : Byte) (n : Nat) : (s.aluA op v).charge n = aluLeaves op s v n := by
  rw [aluLeaves, carry, ← byte_eq_ofNat (aluApply_toNat op s.regs.a v s.flags.c), ← aluApply_flags]
  rfl

theorem exec_aluInstr_reg (op : AluOp) (r : Reg8) (s : State) : exec (aluInstr op (.reg r)) s = aluReg op r s := by
  cases op <;> cases r <;> rfl

theorem exec_aluInstr_mHL (op : AluOp) (s : State) : exec (aluInstr op .mHL) s = aluInd op s := by
  cases op <;> rfl

theorem exec_aluImmInstr (op : AluOp) (n : Byte) (s : State) : exec (aluImmInstr n op) s = aluImm op n s := by
  cases op <;> rfl

/-- Every operation of `alu(y)`, on a register, the byte at HL and an immediate, leaves what its formulas say (R220). -/
theorem aluInstr_leaves (op : AluOp) (s : State) :
    (∀ r : Reg8, exec (aluInstr op (.reg r)) s = .next (aluLeaves op s (s.reg r) 4)) ∧
    (s.answers s.hl = true → exec (aluInstr op .mHL) s = .next (aluLeaves op s (s.readByte s.hl) 8)) ∧
    (∀ n : Byte, exec (aluImmInstr n op) s = .next (aluLeaves op s n 8)) := by
  refine ⟨fun r => ?_, fun h => ?_, fun n => ?_⟩
  · rw [exec_aluInstr_reg, aluReg, aluA_charge]
  · rw [exec_aluInstr_mHL, aluInd, State.memRead_ok h, andThen_ok, aluA_charge]
  · rw [exec_aluImmInstr, aluImm, aluA_charge]

/-- Settles O14: the law of all eight operations covers its five. -/
theorem addSubLogic : Obligations.AddSubLogic := fun op s _ => aluInstr_leaves op s

/-- Settles O15: the law of all eight operations covers its three, with the carry-in. -/
theorem carryAndCompare : Obligations.CarryAndCompare := fun op s _ => aluInstr_leaves op s

/-! ### An operand replaced by a function of it -/

theorem modifyReg_eq (f : Byte → Byte × Flags) (r : Reg8) (n : Nat) (s : State) :
    modifyReg f r n s = .next (withF (s.setReg r (f (s.reg r)).1) (packFlags (f (s.reg r)).2) n) := rfl

theorem modifyInd_ok {s : State} (h : s.answers s.hl = true) (f : Byte → Byte × Flags) (n : Nat) :
    modifyInd f n s =
      .next (withF (s.wrote s.hl (f (s.readByte s.hl)).1) (packFlags (f (s.readByte s.hl)).2) n) := by
  rw [modifyInd, State.memRead_ok h, andThen_ok, State.memWrite_ok h]
  rfl

/-! ### INC and DEC (R158, R159) -/

theorem inc8_flags (v : Byte) (old : Flags) :
    packFlags (inc8 v old).2 = flagByte (decide (v = 0xFF)) false (decide (v.toNat % 16 = 15)) old.c := by
  have hz : (v + 1 == 0) = decide (v = 0xFF) := by
    rw [Bool.eq_iff_iff, beq_iff_eq, decide_eq_true_iff]
    exact add_eq_zero_iff_eq_neg
  rw [packFlags_eq_flagByte]
  simp only [inc8, hz, nibble_eq]

theorem dec8_flags (v : Byte) (old : Flags) :
    packFlags (dec8 v old).2 = flagByte (decide (v = 0x01)) true (decide (v.toNat % 16 = 0)) old.c := by
  have hz : (v - 1 == 0) = decide (v = 0x01) := by
    rw [Bool.eq_iff_iff, beq_iff_eq, decide_eq_true_iff]
    exact sub_eq_zero
  rw [packFlags_eq_flagByte]
  simp only [dec8, hz, nibble_eq]

theorem exec_incInstr_reg (r : Reg8) (s : State) : exec (incInstr (.reg r)) s = incReg r s := by
  cases r <;> rfl

theorem exec_decInstr_reg (r : Reg8) (s : State) : exec (decInstr (.reg r)) s = decReg r s := by
  cases r <;> rfl

/-- Settles O16: a register and the byte at HL are modified by the same primitive. -/
theorem incDec : Obligations.IncDec := by
  refine fun s => ⟨fun r => ?_, fun r => ?_, fun h => ?_, fun h => ?_⟩
  · rw [exec_incInstr_reg, incReg, modifyReg_eq, inc8_flags]
    rfl
  · rw [exec_decInstr_reg, decReg, modifyReg_eq, dec8_flags]
    rfl
  · rw [← inc8_flags]
    exact modifyInd_ok h _ 12
  · rw [← dec8_flags]
    exact modifyInd_ok h _ 12

end Sys2Proof.Machine
end

section
/-! PROOF. DAA (R173) and its decimal meaning, and the 16-bit sums (R171, R172). -/

namespace Sys2Proof.Machine

open Sys2Proof.Claims

/-! ### DAA (R173) -/

/-- The high digit is corrected: C, or after an addition a number above 99 in decimal digits. -/
def daaHighSpec (a : Nat) (x : Flags) : Bool := if x.n then x.c else x.c || decide (a > 0x99)

/-- The low digit is corrected: H, or after an addition a low digit above 9. -/
def daaLowSpec (a : Nat) (x : Flags) : Bool := if x.n then x.h else x.h || decide (a % 16 > 9)

/-- The correction: 6 in each digit that is corrected. -/
def daaAdjustSpec (a : Nat) (x : Flags) : Nat :=
  (if daaHighSpec a x then 0x60 else 0) + (if daaLowSpec a x then 0x06 else 0)

/-- The corrected number: the correction is subtracted after a subtraction, else added. -/
def daaSpec (a : Nat) (x : Flags) : Nat :=
  if x.n then (512 + a - daaAdjustSpec a x) % 256 else (a + daaAdjustSpec a x) % 256

theorem daaAdjust_toNat (high low : Bool) :
    (daaAdjust high low).toNat = (if high then 0x60 else 0) + (if low then 0x06 else 0) := by
  cases high <;> cases low <;> rfl

theorem daa8_toNat (a : Byte) (x : Flags) : (daa8 a x).1.toNat = daaSpec a.toNat x := by
  obtain ⟨z, n, h, c⟩ := x
  cases n with
  | true =>
    show (a - daaAdjust c h).toNat = (512 + a.toNat - ((if c then 0x60 else 0) + (if h then 0x06 else 0))) % 256
    rw [BitVec.toNat_sub, daaAdjust_toNat]
    split <;> split <;> omega
  | false =>
    show (a + daaAdjust (c || decide (a.toNat > 0x99)) (h || decide (nibble a > 0x09))).toNat = _
    rw [BitVec.toNat_add, daaAdjust_toNat, nibble_eq]
    rfl

theorem daa8_flags (a : Byte) (x : Flags) :
    packFlags (daa8 a x).2 = flagByte (daaSpec a.toNat x == 0) x.n false (daaHighSpec a.toNat x) := by
  rw [packFlags_eq_flagByte, ← daa8_toNat, ← byte_beq_zero]
  obtain ⟨z, n, h, c⟩ := x
  cases n <;> rfl

theorem exec_daa (s : State) :
    exec .daa s = .next (withAF s (BitVec.ofNat 8 (daaSpec s.regs.a.toNat s.flags))
      (flagByte (daaSpec s.regs.a.toNat s.flags == 0) s.flags.n false (daaHighSpec s.regs.a.toNat s.flags)) 4) := by
  rw [← daa8_flags, ← byte_eq_ofNat (daa8_toNat s.regs.a s.flags)]
  exact modifyReg_eq (fun v => daa8 v s.flags) .a 4 s

/-- Settles O17: the formula of the statement is that of `daaSpec`. -/
theorem decimalAdjust : Obligations.DecimalAdjust := exec_daa

/-! ### Decimal sums and differences (R152, R154, R173) -/

theorem unpackFlags_flagByte (z n h c : Bool) : unpackFlags (flagByte z n h c) = ⟨z, n, h, c⟩ := by
  rw [← unpackFlags_packFlags ⟨z, n, h, c⟩, packFlags_eq_flagByte]

/-- A number below 100 as two decimal digits of four bits. -/
def digits (x : Nat) : Nat := x / 10 * 16 + x % 10

theorem bcd_toNat {x : Nat} (hx : x < 100) : (bcd x).toNat = digits x := by
  show digits x % 256 = digits x
  unfold digits
  omega

theorem digits_eq {n q r : Nat} (hr : r < 10) (h : n = 10 * q + r) : digits n = 16 * q + r := by
  rw [digits, h]
  omega

/-- After an addition that left `t` tens and `u` units in digits of four bits, C says that their number reaches 100. -/
theorem daaHighSpec_add {t u : Nat} (z : Bool) (hu : u < 20) :
    daaHighSpec ((16 * t + u) % 256) ⟨z, false, decide (u > 15), decide (16 * t + u > 255)⟩ =
      decide (10 * t + u ≥ 100) := by
  simp only [daaHighSpec, Bool.false_eq_true, if_false, ← Bool.decide_or, decide_eq_decide]
  omega

/-- The low digit is corrected where it holds ten or more, also where the nibble sum overflowed. -/
theorem daaLowSpec_add {t u : Nat} (z : Bool) (hu : u < 20) :
    daaLowSpec ((16 * t + u) % 256) ⟨z, false, decide (u > 15), decide (16 * t + u > 255)⟩ = decide (u ≥ 10) := by
  simp only [daaLowSpec, Bool.false_eq_true, if_false, ← Bool.decide_or, decide_eq_decide]
  omega

theorem daaSpec_add {t u : Nat} (z : Bool) (ht : t < 19) (hu : u < 20) :
    daaSpec ((16 * t + u) % 256) ⟨z, false, decide (u > 15), decide (16 * t + u > 255)⟩ =
      digits ((10 * t + u) % 100) := by
  rw [daaSpec, daaAdjustSpec, daaHighSpec_add z hu, daaLowSpec_add z hu]
  simp only [Bool.false_eq_true, if_false, decide_eq_true_eq]
  by_cases hundred : 10 * t + u ≥ 100 <;> by_cases ten : u ≥ 10 <;> simp only [hundred, ten, if_true, if_false]
  · rw [digits_eq (q := t - 9) (r := u - 10)] <;> omega
  · rw [digits_eq (q := t - 10) (r := u)] <;> omega
  · rw [digits_eq (q := t + 1) (r := u - 10)] <;> omega
  · rw [digits_eq (q := t) (r := u)] <;> omega

/-- The correction after a subtraction: `t` and `u` are the differences of the digits with 10 added to each, so that a
borrow shows as a number below 10; this adds 170 to a byte and 110 to a number, hence 342 and 90 where `aluSpec` and the claim
have 512 and 200. -/
theorem daaSpec_sub {t u : Nat} (z : Bool) (ht : 0 < t) (ht' : t < 20) (hu : u < 20) :
    daaSpec ((342 + 16 * t + u) % 256) ⟨z, true, decide (u < 10), decide (10 * t + u < 110)⟩ =
      digits ((90 + 10 * t + u) % 100) := by
  rw [daaSpec, daaAdjustSpec]
  simp only [daaHighSpec, daaLowSpec, if_true, decide_eq_true_eq]
  by_cases borrow : 10 * t + u < 110 <;> by_cases half : u < 10 <;> simp only [borrow, half, if_true, if_false]
  · rw [digits_eq (q := t - 1) (r := u)] <;> omega
  · rw [digits_eq (q := t) (r := u - 10)] <;> omega
  · rw [digits_eq (q := t - 11) (r := u)] <;> omega
  · rw [digits_eq (q := t - 10) (r := u - 10)] <;> omega

section Digits

variable {x y c : Nat} (hx : x < 100) (hy : y < 100) (hc : c ≤ 1)
include hx hy hc

/-- What ADC leaves for two decimal numbers, DAA makes the decimal sum and the hundred. -/
theorem digits_add :
    let r := aluSpec .adc (digits x) (digits y) c
    daaHighSpec r.1 (unpackFlags r.2) = decide (x + y + c ≥ 100) ∧
      daaSpec r.1 (unpackFlags r.2) = digits ((x + y + c) % 100) := by
  generalize ht : x / 10 + y / 10 = t
  generalize hu : x % 10 + y % 10 + c = u
  have sum : digits x + digits y + c = 16 * t + u := by unfold digits; omega
  have half : digits x % 16 + digits y % 16 + c = u := by unfold digits; omega
  have decimal : x + y + c = 10 * t + u := by omega
  simp only [aluSpec, unpackFlags_flagByte]
  rw [sum, half, decimal]
  exact ⟨daaHighSpec_add _ (by omega), daaSpec_add _ (by omega) (by omega)⟩

/-- What SBC leaves for two decimal numbers, DAA makes the decimal difference and the borrow. -/
theorem digits_sub :
    let r := aluSpec .sbc (digits x) (digits y) c
    daaHighSpec r.1 (unpackFlags r.2) = decide (x < y + c) ∧
      daaSpec r.1 (unpackFlags r.2) = digits ((200 + x - y - c) % 100) := by
  generalize ht : 10 + x / 10 - y / 10 = t
  generalize hu : 10 + x % 10 - y % 10 - c = u
  have diff : 512 + digits x - digits y - c = 342 + 16 * t + u := by unfold digits; omega
  have half : digits x % 16 < digits y % 16 + c ↔ u < 10 := by unfold digits; omega
  have borrow : digits x < digits y + c ↔ 10 * t + u < 110 := by unfold digits; omega
  have decimal : 200 + x - y - c = 90 + 10 * t + u := by omega
  have less : x < y + c ↔ 10 * t + u < 110 := by omega
  simp only [aluSpec, unpackFlags_flagByte, half, borrow, less]
  rw [diff, decimal]
  exact ⟨rfl, daaSpec_sub _ (by omega) (by omega) (by omega)⟩

end Digits

theorem aluLeaves_a_toNat (op : AluOp) (s : State) (b : Byte) (n : Nat) :
    (aluLeaves op s b n).regs.a.toNat = (aluSpec op s.regs.a.toNat b.toNat (carry s)).1 := by
  rw [← aluA_charge]
  exact aluApply_toNat op s.regs.a b s.flags.c

/-- An `alu(y) A,n` and then DAA: A and C by the formulas. -/
theorem alu_daa {op : AluOp} {s t u : State} {n : Byte} (ht : exec (aluImmInstr n op) s = .next t)
    (hu : exec .daa t = .next u) :
    let r := aluSpec op s.regs.a.toNat n.toNat (carry s)
    u.regs.a = BitVec.ofNat 8 (daaSpec r.1 (unpackFlags r.2)) ∧ u.flags.c = daaHighSpec r.1 (unpackFlags r.2) := by
  obtain ⟨-, -, himm⟩ := aluInstr_leaves op s
  rw [himm] at ht
  cases ht
  rw [exec_daa, aluLeaves_a_toNat] at hu
  cases hu
  exact ⟨rfl, congrArg Flags.c (unpackFlags_flagByte _ _ _ _)⟩

/-- Settles O18: by the digits of the two numbers. -/
theorem decimalSumAndDifference : Obligations.DecimalSumAndDifference := by
  intro s t u x y hx hy ha
  have hc : carry s ≤ 1 := s.flags.c.toNat_le
  have ex : s.regs.a.toNat = digits x := ha ▸ bcd_toNat hx
  have ey : (bcd y).toNat = digits y := bcd_toNat hy
  refine ⟨fun ht hu => ?_, fun ht hu => ?_⟩
  · obtain ⟨hundred, sum⟩ := digits_add hx hy hc
    obtain ⟨h1, h2⟩ := alu_daa (op := .adc) ht hu
    rw [ex, ey] at h1 h2
    exact ⟨h1.trans (congrArg (BitVec.ofNat 8) sum), h2.trans hundred⟩
  · obtain ⟨borrow, diff⟩ := digits_sub hx hy hc
    obtain ⟨h1, h2⟩ := alu_daa (op := .sbc) ht hu
    rw [ex, ey] at h1 h2
    exact ⟨h1.trans (congrArg (BitVec.ofNat 8) diff), h2.trans borrow⟩

/-! ### 16-bit sums (R171, R172) -/

theorem low12_toNat (w : Word) : (w &&& 0x0FFF).toNat = w.toNat % 4096 := Nat.and_two_pow_sub_one_eq_mod w.toNat 12

theorem low8_toNat (w : Word) : (w &&& 0x00FF).toNat = w.toNat % 256 := Nat.and_two_pow_sub_one_eq_mod w.toNat 8

theorem low4_toNat (w : Word) : (w &&& 0x000F).toNat = w.toNat % 16 := Nat.and_two_pow_sub_one_eq_mod w.toNat 4

theorem exec_addHLInstr (p : Reg16) (s : State) : exec (addHLInstr p) s = addHL p s := by
  cases p <;> rfl

theorem add16_fst (h w : Word) (old : Flags) : (add16 h w old).1 = BitVec.ofNat 16 (h.toNat + w.toNat) := by
  rw [BitVec.ofNat_add, BitVec.ofNat_toNat, BitVec.ofNat_toNat, BitVec.setWidth_eq, BitVec.setWidth_eq]
  rfl

theorem add16_flags (h w : Word) (old : Flags) :
    packFlags (add16 h w old).2 =
      flagByte old.z false (decide (h.toNat % 4096 + w.toNat % 4096 > 4095)) (decide (h.toNat + w.toNat > 65535)) := by
  rw [packFlags_eq_flagByte]
  simp only [add16, low12_toNat]

/-- Settles O20. -/
theorem addPairToHL : Obligations.AddPairToHL := by
  intro p s
  rw [exec_addHLInstr, addHL, ← add16_flags, ← add16_fst]
  rfl

theorem addsp_fst (sp : Word) (e : Byte) : (addsp sp e).1 = spPlus sp e := by
  rw [spPlus, BitVec.ofInt_add, BitVec.ofInt_natCast, BitVec.ofNat_toNat, BitVec.setWidth_eq]
  rfl

theorem addsp_flags (sp : Word) (e : Byte) : packFlags (addsp sp e).2 = lowCarries sp e := by
  rw [packFlags_eq_flagByte]
  simp only [addsp, low4_toNat, low8_toNat, nibble_eq, lowCarries]

/-- Settles O22. -/
theorem stackPointerOffset : Obligations.StackPointerOffset := by
  intro e s
  rw [← addsp_fst, ← addsp_flags]
  exact ⟨rfl, rfl⟩

end Sys2Proof.Machine
end

section
/-! PROOF. Rotates, shifts and single bits (R160 to R170) as formulas over numbers, and the instructions that run them. -/

namespace Sys2Proof.Machine

open Sys2Proof.Claims

/-! ### Rotates and shifts (R160 to R167) -/

theorem bit_toNat (v : Byte) (i : Nat) : bit v.toNat i = (v.getLsbD i).toNat := (Nat.toNat_testBit v.toNat i).symm

theorem bit_eq_one (v : Byte) (i : Nat) : (bit v.toNat i == 1) = v.getLsbD i := by
  rw [bit_toNat]
  cases v.getLsbD i <;> rfl

theorem shl_toNat (a : Byte) : (a <<< 1).toNat = 2 * a.toNat % 256 := by
  rw [BitVec.toNat_shiftLeft, Nat.shiftLeft_eq, Nat.mul_comm]

theorem shr_toNat (a : Byte) : (a >>> 1).toNat = a.toNat / 2 := by
  rw [BitVec.toNat_ushiftRight, Nat.shiftRight_eq_div_pow]

/-- A shift to the left with a bit put in at the bottom. -/
theorem shl_or_bit_toNat (a : Byte) (b : Bool) : ((a <<< 1) ||| bitByte b).toNat = 2 * a.toNat % 256 + b.toNat := by
  have hb : b.toNat < 2 ^ 1 := Nat.lt_succ_of_le b.toNat_le
  have hs : 2 * a.toNat % 256 = 2 ^ 1 * (a.toNat % 128) := Nat.mul_mod_mul_left 2 a.toNat 128
  rw [BitVec.toNat_or, bitByte_toNat, shl_toNat, hs, Nat.two_pow_add_eq_or_of_lt hb]

/-- A shift to the right with a bit put in at the top. -/
theorem shr_or_bit_toNat (a : Byte) (b : Bool) :
    ((a >>> 1) ||| (bitByte b <<< 7)).toNat = a.toNat / 2 + 128 * b.toNat := by
  have ha : a.toNat / 2 < 2 ^ 7 := by omega
  have hs : (bitByte b <<< 7).toNat = 2 ^ 7 * b.toNat := by cases b <;> rfl
  rw [BitVec.toNat_or, shr_toNat, hs, Nat.lor_comm, ← Nat.two_pow_add_eq_or_of_lt ha, Nat.add_comm]

/-- The sign bit in its place is the top bit put in again (R165). -/
theorem and_top (a : Byte) : a &&& (0x80 : Byte) = bitByte (a.getLsbD 7) <<< 7 := by
  have h : a &&& (0x80 : Byte) = if a.getLsbD 7 then (0x80 : Byte) else 0 := BitVec.and_twoPow a 7
  rw [h]
  cases a.getLsbD 7 <;> rfl

theorem swap_toNat (a : Byte) : (a.extractLsb' 0 4 ++ a.extractLsb' 4 4).toNat = a.toNat % 16 * 16 + a.toNat / 16 := by
  have high : a.toNat / 16 < 2 ^ 4 := by omega
  have cut : (a.extractLsb' 4 4).toNat = a.toNat / 16 := by
    rw [BitVec.extractLsb'_toNat, Nat.shiftRight_eq_div_pow]
    exact Nat.mod_eq_of_lt high
  have low : (a.extractLsb' 0 4).toNat = a.toNat % 16 := by simp
  rw [BitVec.toNat_append, cut, low, Nat.shiftLeft_eq, Nat.mul_comm, ← Nat.two_pow_add_eq_or_of_lt high, Nat.mul_comm]

/-- The result of each primitive is the number of its formula. -/
theorem rotApply_toNat (op : RotOp) (a : Byte) (c : Bool) :
    (rotApply op a c).1.toNat = (rotSpec op a.toNat c.toNat).1 := by
  cases op with
  | rlc => simp only [rotApply, rotSpec, rlc8, shifted, shl_or_bit_toNat, bit_toNat]
  | rrc => simp only [rotApply, rotSpec, rrc8, shifted, shr_or_bit_toNat, bit_toNat]
  | rl => exact shl_or_bit_toNat a c
  | rr => exact shr_or_bit_toNat a c
  | sla => exact shl_toNat a
  | sra =>
    show ((a >>> 1) ||| (a &&& (0x80 : Byte))).toNat = _
    rw [and_top, shr_or_bit_toNat, ← bit_toNat]
    rfl
  | swap => exact swap_toNat a
  | srl => exact shr_toNat a

/-- C is the bit that the formula shifts out. -/
theorem rotApply_c (op : RotOp) (a : Byte) (c : Bool) :
    (rotApply op a c).2.c = ((rotSpec op a.toNat c.toNat).2 == 1) := by
  cases op with
  | rlc | rl | sla => exact (bit_eq_one a 7).symm
  | rrc | rr | sra | srl => exact (bit_eq_one a 0).symm
  | swap => rfl

/-- Every rotate and shift clears N and H, and its Z follows the result. -/
theorem rotApply_flags (op : RotOp) (a : Byte) (c : Bool) :
    (rotApply op a c).2 = ⟨(rotApply op a c).1 == 0, false, false, (rotApply op a c).2.c⟩ := by
  cases op <;> rfl

theorem rotApply_packed (op : RotOp) (a : Byte) (c : Bool) :
    packFlags (rotApply op a c).2 =
      rotFlags ((rotSpec op a.toNat c.toNat).1 == 0) (rotSpec op a.toNat c.toNat).2 := by
  rw [rotApply_flags, packFlags_eq_flagByte, byte_beq_zero, rotApply_toNat, rotApply_c]
  rfl

theorem rotAcc_eq (op : RotOp) (s : State) :
    rotAcc op s = .next (withAF s (BitVec.ofNat 8 (rotSpec op s.regs.a.toNat (carry s)).1)
      (rotFlags false (rotSpec op s.regs.a.toNat (carry s)).2) 4) := by
  have hf : packFlags { (rotApply op s.regs.a s.flags.c).2 with z := false } =
      rotFlags false (rotSpec op s.regs.a.toNat s.flags.c.toNat).2 := by
    rw [rotApply_flags, packFlags_eq_flagByte, rotApply_c]
    rfl
  rw [carry, ← byte_eq_ofNat (rotApply_toNat op s.regs.a s.flags.c), ← hf]
  rfl

/-- Settles O23: the four are one shape with Z cleared. -/
theorem accumulatorRotates : Obligations.AccumulatorRotates := fun s =>
  ⟨rotAcc_eq .rlc s, rotAcc_eq .rrc s, rotAcc_eq .rl s, rotAcc_eq .rr s⟩

/-- Every prefixed rotate and shift, on a register and on the byte at HL, leaves what its formulas say (R270). -/
theorem rotInstr_leaves (op : RotOp) (s : State) :
    (∀ r : Reg8,
      let x := rotSpec op (s.reg r).toNat (carry s)
      exec (rotInstr op (.reg r)) s = .next (withF (s.setReg r (BitVec.ofNat 8 x.1)) (rotFlags (x.1 == 0) x.2) 8)) ∧
    (s.answers s.hl = true →
      let x := rotSpec op (s.readByte s.hl).toNat (carry s)
      exec (rotInstr op .mHL) s =
        .next (withF (s.wrote s.hl (BitVec.ofNat 8 x.1)) (rotFlags (x.1 == 0) x.2) 16)) := by
  refine ⟨fun r => ?_, fun h => ?_⟩
  · dsimp only
    rw [exec_rotInstr, carry, ← byte_eq_ofNat (rotApply_toNat op (s.reg r) s.flags.c), ← rotApply_packed]
    exact modifyReg_eq (fun v => rotApply op v s.flags.c) r 8 s
  · dsimp only
    rw [exec_rotInstr, carry, ← byte_eq_ofNat (rotApply_toNat op (s.readByte s.hl) s.flags.c), ← rotApply_packed]
    exact modifyInd_ok h (fun v => rotApply op v s.flags.c) 16

/-- Settles O24: the law of all eight operations covers the four rotates. -/
theorem prefixedRotates : Obligations.PrefixedRotates := fun op s _ => rotInstr_leaves op s

/-- Settles O25: the law of all eight operations covers the shifts and the swap. -/
theorem shiftsAndSwap : Obligations.ShiftsAndSwap := fun op s _ => rotInstr_leaves op s

/-! ### BIT, RES and SET (R168, R169, R170) -/

theorem bit8_flags (n : Nat) (v : Byte) (old : Flags) :
    packFlags (bit8 n v old) = flagByte (bit v.toNat n == 0) false true old.c := by
  rw [packFlags_eq_flagByte, bit_toNat]
  simp only [bit8]
  cases v.getLsbD n <;> rfl

theorem bitOpnd_ok {s : State} (h : s.answers s.hl = true) (n : Nat) :
    bitOpnd n .mHL s = .next (withF s (packFlags (bit8 n (s.readByte s.hl) s.flags)) 12) := by
  rw [bitOpnd, State.memRead_ok h, andThen_ok]
  rfl

theorem replaceOpnd_reg (f : Byte → Byte) (r : Reg8) (s : State) :
    replaceOpnd f (.reg r) s = .next { s.setReg r (f (s.reg r)) with cycles := s.cycles + 8 } := by
  cases r <;> rfl

theorem replaceOpnd_ok {s : State} (h : s.answers s.hl = true) (f : Byte → Byte) :
    replaceOpnd f .mHL s = .next ((s.wrote s.hl (f (s.readByte s.hl))).charge 16) := by
  rw [replaceOpnd, State.memRead_ok h, andThen_ok, State.memWrite_ok h, andThen_ok]

/-- The bits of a byte inside and outside a mask add up to it. -/
theorem and_add_and_not_toNat (v m : Byte) : (v &&& m).toNat + (v &&& ~~~m).toNat = v.toNat := by
  have apart : (v &&& m) &&& (v &&& ~~~m) = 0#8 := by
    ext i
    simp only [BitVec.getElem_and, BitVec.getElem_not, BitVec.getElem_zero]
    cases m[i] <;> simp
  rw [← BitVec.toNat_add_of_and_eq_zero apart, BitVec.add_eq_or_of_and_eq_zero _ _ apart]
  congr 1
  ext
  simp only [BitVec.getElem_or, BitVec.getElem_and, BitVec.getElem_not, ← Bool.and_or_distrib_left, Bool.or_not_self,
    Bool.and_true]

/-- A mask raised in a byte adds to the bits outside it. -/
theorem or_toNat (v m : Byte) : (v ||| m).toNat = (v &&& ~~~m).toNat + m.toNat := by
  have apart : (v &&& ~~~m) &&& m = 0 := by ext; simp
  rw [← BitVec.toNat_add_of_and_eq_zero apart, BitVec.add_eq_or_of_and_eq_zero _ _ apart]
  congr 1
  ext
  simp only [BitVec.getElem_or, BitVec.getElem_and, BitVec.getElem_not, Bool.or_and_distrib_right, Bool.not_or_self,
    Bool.and_true]

theorem oct_lt (n : Oct) : n.toNat < 8 := by
  cases n <;> decide

section OneBit

variable {n : Nat} (hn : n < 8) (v : Byte)
include hn

theorem oneBit_toNat : ((1 : Byte) <<< n).toNat = 2 ^ n := by
  rw [← BitVec.toNat_twoPow_of_lt hn, BitVec.twoPow_eq]
  rfl

theorem and_oneBit_toNat : (v &&& (1 : Byte) <<< n).toNat = bit v.toNat n * 2 ^ n := by
  rw [BitVec.toNat_and, oneBit_toNat hn, Nat.and_two_pow, bit_toNat]
  rfl

theorem res8_toNat : (res8 n v).toNat = v.toNat - bit v.toNat n * 2 ^ n := by
  rw [← and_oneBit_toNat hn]
  exact Nat.eq_sub_of_add_eq' (and_add_and_not_toNat v ((1 : Byte) <<< n))

theorem set8_toNat : (set8 n v).toNat = v.toNat + (1 - bit v.toNat n) * 2 ^ n := by
  have parts := and_add_and_not_toNat v ((1 : Byte) <<< n)
  rw [and_oneBit_toNat hn, bit_toNat] at parts
  rw [set8, or_toNat, oneBit_toNat hn, bit_toNat, ← parts]
  cases v.getLsbD n <;> simp [Nat.add_comm]

end OneBit

/-- Settles O26: RES takes the bit's weight away where it is set, SET adds it where it is not. -/
theorem bitInstructions : Obligations.BitInstructions := by
  refine ⟨fun n s => ⟨fun r => ?_, fun h => ?_⟩, fun n s => ?_⟩
  · rw [exec_bitInstr, ← bit8_flags]
    rfl
  · rw [exec_bitInstr, ← bit8_flags, bitOpnd_ok h]
  · have cleared := fun v => byte_eq_ofNat (res8_toNat (oct_lt n) v)
    have raised := fun v => byte_eq_ofNat (set8_toNat (oct_lt n) v)
    simp only [exec_resInstr, exec_setInstr, ← cleared, ← raised]
    exact ⟨fun r => ⟨replaceOpnd_reg _ r s, replaceOpnd_reg _ r s⟩,
      fun h => ⟨replaceOpnd_ok h _, replaceOpnd_ok h _⟩⟩

end Sys2Proof.Machine
end

section
/-! PROOF. The loads of a register or a pair, the loads from memory and the byte stores (R180 to R199, R210, R212): each
instruction runs a shape of Operands.lean, and each shape answers its whole next state. -/

namespace Sys2Proof.Machine

open Sys2Proof.Claims

/-! ### The families run their shapes -/

theorem exec_ldInstr_reg (dst src : Reg8) (s : State) : exec (ldInstr (.reg dst) (.reg src)) s = ldRegReg dst src s := by
  cases dst <;> cases src <;> rfl

theorem exec_ldInstr_from_mHL (dst : Reg8) (s : State) : exec (ldInstr (.reg dst) .mHL) s = loadReg dst s.hl 8 s := by
  cases dst <;> rfl

theorem exec_ldInstr_to_mHL (src : Reg8) (s : State) :
    exec (ldInstr .mHL (.reg src)) s = storeByte s.hl (s.reg src) 8 s := by
  cases src <;> rfl

theorem exec_ldImmInstr_reg (dst : Reg8) (n : Byte) (s : State) :
    exec (ldImmInstr n (.reg dst)) s = ldRegImm dst n s := by
  cases dst <;> rfl

theorem exec_ld16Instr (p : Reg16) (nn : Word) (s : State) : exec (ld16Instr nn p) s = ldPairImm p nn s := by
  cases p <;> rfl

/-! ### A register written, then the cost -/

theorem State.charge_setReg (s : State) (r : Reg8) (v : Byte) (n : Nat) :
    (s.setReg r v).charge n = { s.setReg r v with cycles := s.cycles + n } := by
  rw [State.charge, State.setReg_cycles]

theorem State.charge_setReg16 (s : State) (p : Reg16) (v : Word) (n : Nat) :
    (s.setReg16 p v).charge n = { s.setReg16 p v with cycles := s.cycles + n } := by
  rw [State.charge, State.setReg16_cycles]

/-- Settles O7: the three families run one shape each, and LD SP,HL is its own next state. -/
theorem loadRegister : Obligations.LoadRegister := by
  refine ⟨fun dst src s => ?_, fun dst n s => ?_, fun p nn s => ?_, fun s => rfl⟩
  · rw [exec_ldInstr_reg, ldRegReg, State.charge_setReg]
  · rw [exec_ldImmInstr_reg, ldRegImm, State.charge_setReg]
  · rw [exec_ld16Instr, ldPairImm, State.charge_setReg16]

/-! ### The high page (R191 to R194) -/

theorem highPage_eq_highAddr (n : Byte) : highPage n = highAddr n := by
  rw [highPage, highAddr, BitVec.ofNat_add, BitVec.ofNat_toNat]
  rfl

/-! ### The shapes where the address answers -/

section Answered

variable {s : State}

theorem loadReg_ok {a : Word} (h : s.answers a = true) (dst : Reg8) (n : Nat) :
    loadReg dst a n s = .next { s.setReg dst (s.readByte a) with cycles := s.cycles + n } := by
  rw [loadReg, State.memRead_ok h, andThen_ok, State.charge_setReg]

theorem storeByte_ok {a : Word} (h : s.answers a = true) (v : Byte) (n : Nat) :
    storeByte a v n s = .next ((s.wrote a v).charge n) := by
  rw [storeByte, State.memWrite_ok h, andThen_ok]

theorem loadStepHL_ok (h : s.answers s.hl = true) (d : Word) :
    loadStepHL d s =
      .next { (s.setReg .a (s.readByte s.hl)).setHL (s.hl + d) with cycles := s.cycles + 8 } := by
  rw [loadStepHL, State.memRead_ok h, andThen_ok]
  rfl

theorem storeStepHL_ok (h : s.answers s.hl = true) (d : Word) :
    storeStepHL d s = .next (((s.wrote s.hl s.regs.a).setHL (s.hl + d)).charge 8) := by
  rw [storeStepHL, State.memWrite_ok h, andThen_ok]

theorem loadReg_highPage_ok {n : Byte} (h : s.answers (highAddr n) = true) (dst : Reg8) (k : Nat) :
    loadReg dst (highPage n) k s = .next { s.setReg dst (s.readByte (highAddr n)) with cycles := s.cycles + k } := by
  rw [highPage_eq_highAddr, loadReg_ok h]

theorem storeByte_highPage_ok {n : Byte} (h : s.answers (highAddr n) = true) (v : Byte) (k : Nat) :
    storeByte (highPage n) v k s = .next ((s.wrote (highAddr n) v).charge k) := by
  rw [highPage_eq_highAddr, storeByte_ok h]

end Answered

/-- Settles O8: a load or a stepping load, whose step down is HL plus -1. -/
theorem loadFromMemory : Obligations.LoadFromMemory := by
  intro s
  refine ⟨fun dst h => ?_, fun h => loadReg_ok h .a 8, fun h => loadReg_ok h .a 8, fun nn h => loadReg_ok h .a 16,
    fun n h => loadReg_highPage_ok h .a 12, fun h => loadReg_highPage_ok h .a 8, fun h => loadStepHL_ok h 1, fun h => ?_⟩
  · rw [exec_ldInstr_from_mHL, loadReg_ok h]
  · rw [sub_eq_add_neg]
    exact loadStepHL_ok h (-1)

/-- Settles O9: a store or a stepping store, whose step down is HL plus -1 (`storeByte` itself is the model's shape). -/
theorem storeByte_obligation : Obligations.StoreByte := by
  intro s
  refine ⟨fun src h => ?_, fun n h => storeByte_ok h n 12, fun h => storeByte_ok h _ 8, fun h => storeByte_ok h _ 8,
    fun nn h => storeByte_ok h _ 16, fun n h => storeByte_highPage_ok h _ 12, fun h => storeByte_highPage_ok h _ 8,
    fun h => storeStepHL_ok h 1, fun h => ?_⟩
  · rw [exec_ldInstr_to_mHL, storeByte_ok h]
  · rw [sub_eq_add_neg]
    exact storeStepHL_ok h (-1)

end Sys2Proof.Machine
end

section
/-! PROOF. CPL, SCF and CCF (R250, R251, R252): the flags they write as one packed byte, and the complement as a number. -/

namespace Sys2Proof.Machine

open Sys2Proof.Claims

theorem setFlags_charge (s : State) (x : Flags) (n : Nat) :
    (s.setFlags x).charge n = withF s (flagByte x.z x.n x.h x.c) n := by
  rw [← packFlags_eq_flagByte]
  rfl

theorem byte_not_eq_ofNat (a : Byte) : ~~~a = BitVec.ofNat 8 (255 - a.toNat) := byte_eq_ofNat BitVec.toNat_not

theorem execCpl_eq (s : State) :
    execCpl s = .next (withF (s.setReg .a (~~~s.regs.a)) (flagByte s.flags.z true true s.flags.c) 4) := by
  rw [execCpl, setFlags_charge]

theorem execScf_eq (s : State) : execScf s = .next (withF s (flagByte s.flags.z false false true) 4) := by
  rw [execScf, setFlags_charge]

theorem execCcf_eq (s : State) : execCcf s = .next (withF s (flagByte s.flags.z false false (!s.flags.c)) 4) := by
  rw [execCcf, setFlags_charge]

/-- Settles O19: CPL writes A and then the flags, SCF and CCF the flags alone. -/
theorem complementAndCarry : Obligations.ComplementAndCarry := by
  refine fun s => ⟨?_, execScf_eq s, execCcf_eq s⟩
  rw [← byte_not_eq_ofNat]
  exact execCpl_eq s

end Sys2Proof.Machine
end

section
/-! PROOF. INC rr and DEC rr (R262, R263): each changes its pair by one modulo 2^16. -/

namespace Sys2Proof.Machine

open Sys2Proof.Claims

theorem exec_inc16Instr (p : Reg16) (s : State) : exec (inc16Instr p) s = incPair p s := by
  cases p <;> rfl

theorem exec_dec16Instr (p : Reg16) (s : State) : exec (dec16Instr p) s = decPair p s := by
  cases p <;> rfl

theorem word_eq_ofNat {w : Word} {n : Nat} (h : w.toNat = n) : w = BitVec.ofNat 16 n := by
  rw [← h, BitVec.ofNat_toNat, BitVec.setWidth_eq]

theorem word_add_one_eq_ofNat (w : Word) : w + 1 = BitVec.ofNat 16 ((w.toNat + 1) % 65536) :=
  word_eq_ofNat (BitVec.toNat_add w 1)

theorem word_sub_one_eq_ofNat (w : Word) : w - 1 = BitVec.ofNat 16 ((w.toNat + 65535) % 65536) := by
  rw [sub_eq_add_neg]
  exact word_eq_ofNat (BitVec.toNat_add w (-1))

/-- Settles O21: a step down is the pair plus 65535. -/
theorem incDecPair : Obligations.IncDecPair := by
  refine fun p s => ⟨?_, ?_⟩
  · rw [exec_inc16Instr, incPair, State.charge_setReg16, word_add_one_eq_ofNat]
  · rw [exec_dec16Instr, decPair, State.charge_setReg16, word_sub_one_eq_ofNat]

end Sys2Proof.Machine
end

section
/-! PROOF. JP and JR, conditional or not (R310 to R314, R321): the target and the cost of each way. -/

namespace Sys2Proof.Machine

open Sys2Proof.Claims

theorem exec_jpCondInstr (cc : Cond) (nn : Word) (s : State) :
    exec (jpCondInstr nn cc) s = conditional cc (jumpTo nn 16) 12 s := by cases cc <;> rfl

theorem exec_jrCondInstr (cc : Cond) (e : Byte) (s : State) :
    exec (jrCondInstr e cc) s = conditional cc (jumpTo (relTarget s e) 12) 8 s := by cases cc <;> rfl

/-- The sum is that of ADD SP,e, with pc in the place of SP (R172, R313). -/
theorem relTarget_eq_ofInt (s : State) (e : Byte) :
    relTarget s e = BitVec.ofInt 16 (s.regs.pc.toNat + e.toInt) := addsp_fst s.regs.pc e

theorem jumpTo_next (a : Word) (n : Nat) (s : State) : jumpTo a n s = .next (withPC s a n) := rfl

theorem conditional_jumpTo (cc : Cond) (a : Word) (n m : Nat) (s : State) :
    conditional cc (jumpTo a n) m s = .next (if s.holds cc then withPC s a n else withPC s s.regs.pc m) := by
  cases h : s.holds cc with
  | true => exact conditional_taken h _ _
  | false => exact conditional_not_taken h _ _

/-- Settles O27: a condition holds by the bit of F it names, and only the jump taken writes pc. -/
theorem jumps : Obligations.Jumps := by
  refine ⟨fun s => ⟨fun nn => jumpTo_next nn 16 s, jumpTo_next s.hl 4 s, fun e => ?_⟩, fun cc s => ?_⟩
  · rw [← relTarget_eq_ofInt]
    exact jumpTo_next (relTarget s e) 12 s
  · intro taken
    have htaken : taken = s.holds cc := by cases cc <;> rfl
    rw [htaken]
    refine ⟨fun nn => ?_, fun e => ?_⟩
    · rw [exec_jpCondInstr, conditional_jumpTo]
    · rw [exec_jrCondInstr, conditional_jumpTo, relTarget_eq_ofInt]

end Sys2Proof.Machine
end

section
/-! PROOF. The system instructions (R331 to R335), the delay of DI and EI (R376), and a step while the core is halted or
stopped (R360, R361). -/

namespace Sys2Proof.Machine

open Sys2Proof.Claims

/-! ### NOP, HALT, STOP, DI and EI -/

theorem exec_di (s : State) : exec .di s = .next ((s.setPipe1 .clear).charge 4) := rfl

theorem exec_ei (s : State) : exec .ei s = .next ((s.setPipe1 .set).charge 4) := rfl

/-- Settles O30: HALT and STOP write the run state, DI and EI slot 1 of the pipe, and NOP only takes its cycles. -/
theorem systemInstructions : Obligations.SystemInstructions :=
  fun s => ⟨rfl, rfl, fun _ => rfl, exec_di s, exec_ei s⟩

/-! ### The pipe of IME (R376, R378) -/

theorem State.imeRetire_int_ime (s : State) : s.imeRetire.int.ime = s.int.pipe0.apply s.int.ime := rfl

theorem State.imeRetire_int_pipe0 (s : State) : s.imeRetire.int.pipe0 = s.int.pipe1 := rfl

/-- Slot 0 is written by a retirement only (R376). -/
theorem exec_keepsPipe0 {i : Instr} {s t : State} (h : exec i s = .next t) : t.int.pipe0 = s.int.pipe0 := by
  obtain ⟨-, -, -, -, -, -, hpipe⟩ := (exec_effect h).frame
  exact hpipe

/-- What slot 1 holds at a retirement acts at the next one, whatever the instruction between them does. -/
theorem ime_after_following {i : Instr} {t u : State} (h : exec i t.imeRetire = .next u) :
    u.imeRetire.int.ime = t.int.pipe1.apply u.int.ime := by
  rw [State.imeRetire_int_ime, exec_keepsPipe0 h, State.imeRetire_int_pipe0]

/-- A request put into slot 1 leaves the retirement that follows to slot 0. -/
theorem ime_after_setPipe1 (s : State) (r : ImeReq) (n : Nat) :
    ((s.setPipe1 r).charge n).imeRetire.int.ime = s.int.pipe0.apply s.int.ime := rfl

/-- Settles O37: the first retirement acts on the old slot 0, the second on the request that DI or EI made. -/
theorem imeLatency : Obligations.ImeLatency := by
  intro s t u i hu before
  have hbefore : s.int.pipe0.apply s.int.ime = before := rfl
  refine ⟨fun ht => ?_, fun ht => ?_⟩
  · rw [exec_di] at ht
    cases ht
    exact ⟨(ime_after_setPipe1 s .clear 4).trans hbefore, ime_after_following hu⟩
  · rw [exec_ei] at ht
    cases ht
    exact ⟨(ime_after_setPipe1 s .set 4).trans hbefore, ime_after_following hu⟩

/-! ### Idle steps (R332, R333, R360, R361) -/

theorem State.beginStep_of_no_event {s : State} (h : s.hostQueue = []) : s.beginStep = { s with cycles := 0 } := by
  rw [State.beginStep, State.drain_nil h]

/-- Only a halted core with an enabled line pending wakes (R361). -/
theorem State.wake_eq_self {s : State} (h : s.runState = .halted → s.pending = 0) : s.wake = s :=
  if_neg fun ⟨hr, hp⟩ => hp (h hr)

/-- Only a running core takes an interrupt (R372). -/
theorem State.takeInterrupt_of_not_running {s : State} (h : s.runState ≠ .running) : s.takeInterrupt = .ok s :=
  if_neg fun ⟨hr, _⟩ => h hr

/-- A core that does not run after line 3 idles (R360). -/
theorem step_not_running {s s1 : State} (hf : s.fault = none) (hp : s.prepare = .ok s1)
    (hr : s1.runState ≠ .running) : step s = .next s1.idle.endStep := by
  rw [step, hf]
  simp only [hp, andThen_ok]
  cases h : s1.runState with
  | running => exact absurd h hr
  | halted => rfl
  | stopped => rfl

/-- Where lines 1 to 3 of R360 find nothing to do, a core that does not run only lets 4 cycles pass. -/
theorem step_idle {s : State} (hf : s.fault = none) (hq : s.hostQueue = []) (hr : s.runState ≠ .running)
    (hp : s.runState = .halted → s.pending = 0) : step s = .next (settled { s with cycles := 4 }) := by
  have prepared : s.prepare = .ok { s with cycles := 0 } := by
    have awake : ({ s with cycles := 0 } : State).wake = { s with cycles := 0 } := State.wake_eq_self hp
    rw [State.prepare, State.beginStep_of_no_event hq, awake]
    exact State.takeInterrupt_of_not_running hr
  rw [step_not_running hf prepared hr, State.endStep_eq]
  rfl

/-- Settles O38: timer and PPU take no cycles while the core is stopped. -/
theorem idleSteps : Obligations.IdleSteps := by
  intro s hf hq
  refine ⟨fun hr hp => step_idle hf hq (by simp [hr]) fun _ => hp, fun hr => ?_⟩
  rw [step_idle hf hq (by simp [hr]) (by simp [hr]), settled, if_pos hr]

end Sys2Proof.Machine
end

section
/-! PROOF. Which interrupt is taken, what taking it leaves, and when none is taken (R361, R370, R372, R373). -/

namespace Sys2Proof.Machine

open Sys2Proof.Claims

/-! ### The line selected (R370, R372) -/

/-- The selected line is the first of the five, counted from 0, whose bit is set. -/
theorem leastLine_eq_find (p : BitVec 5) : leastLine p = (List.range 5).find? p.getLsbD := by
  revert p; decide

theorem leastLine_eq_some_iff {p : BitVec 5} {i : Nat} :
    leastLine p = some i ↔ i < 5 ∧ p.getLsbD i = true ∧ ∀ j < i, p.getLsbD j = false := by
  simp [leastLine_eq_find, List.find?_range_eq_some, and_left_comm]

theorem leastLine_eq_none_iff {p : BitVec 5} : leastLine p = none ↔ ∀ j < 5, p.getLsbD j = false := by
  simp [leastLine_eq_find]

theorem leastLine_zero : leastLine 0 = none := rfl

/-- A line is pending where it is enabled in IE and requested in IF (R372). -/
theorem State.pending_getLsbD (s : State) {i : Nat} (hi : i < 5) :
    s.pending.getLsbD i = (s.int.ie.getLsbD i && s.int.if_.getLsbD i) := by
  simp [State.pending, hi]

theorem State.pending_getLsbD_eq_false (s : State) {i : Nat} (hi : i < 5) :
    s.pending.getLsbD i = false ↔ ¬ (s.int.ie.getLsbD i = true ∧ s.int.if_.getLsbD i = true) := by
  rw [State.pending_getLsbD s hi, ← Bool.and_eq_true, Bool.not_eq_true]

/-- Settles O34. -/
theorem lowestLineFirst : Obligations.LowestLineFirst := by
  refine fun s => ⟨fun i => ?_, ?_, rfl, rfl, rfl, rfl, rfl⟩
  · rw [leastLine_eq_some_iff]
    refine and_congr_right fun hi => ?_
    rw [State.pending_getLsbD s hi, Bool.and_eq_true, and_assoc]
    exact and_congr_right fun _ => and_congr_right fun _ =>
      forall₂_congr fun j hj => s.pending_getLsbD_eq_false (hj.trans hi)
  · rw [leastLine_eq_none_iff]
    exact forall₂_congr fun j hj => s.pending_getLsbD_eq_false hj

/-! ### Lines 1 to 3 of a step (R360) -/

/-- A wake writes the run state of a halted core with an enabled line pending (R361). -/
theorem State.wake_eq (s : State) :
    s.wake = { s with runState := if s.runState = .halted ∧ s.pending ≠ 0 then .running else s.runState } := by
  unfold State.wake
  split <;> rfl

/-- With no host event, lines 1 to 3 are the wake and the check on a count of cycles that starts at zero. -/
theorem State.prepare_of_no_event {s : State} (h : s.hostQueue = []) :
    s.prepare = ({ s with
      runState := if s.runState = .halted ∧ s.pending ≠ 0 then .running else s.runState
      cycles := 0 } : State).takeInterrupt := by
  rw [State.prepare, State.beginStep_of_no_event h, State.wake_eq]
  rfl

/-- The check dispatches the selected line while running with IME set (R372). -/
theorem State.takeInterrupt_eq_dispatch {s : State} {i : Nat} (hr : s.runState = .running) (hm : s.int.ime = true)
    (hi : leastLine s.pending = some i) : s.takeInterrupt = s.dispatch i := by
  rw [State.takeInterrupt, if_pos ⟨hr, hm⟩, hi]

/-- The check does nothing with IME clear or no line selected (R372). -/
theorem State.takeInterrupt_eq_self {s : State} (h : s.int.ime = false ∨ leastLine s.pending = none) :
    s.takeInterrupt = .ok s := by
  unfold State.takeInterrupt
  rcases h with h | h
  · rw [if_neg (by simp [h])]
  · rw [h, ite_self]

/-- Settles O35: the core is running after the wake, halted or not before it, so the check dispatches. -/
theorem takeInterrupt : Obligations.TakeInterrupt := by
  intro s i hq hr hm hi h2 h1
  have hp : s.pending ≠ 0 := by
    intro h0
    rw [h0, leastLine_zero] at hi
    cases hi
  have awake : (if s.runState = .halted ∧ s.pending ≠ 0 then .running else s.runState) = RunState.running := by
    cases h : s.runState with
    | running => simp
    | halted => exact if_pos ⟨rfl, hp⟩
    | stopped => exact absurd h hr
  rw [State.prepare_of_no_event hq, awake]
  let u : State := { s with runState := .running, cycles := 0 }
  exact (State.takeInterrupt_eq_dispatch (s := u) rfl hm hi).trans (State.dispatch_ok (s := u) h2 h1 i)

/-- Settles O36: IME is clear, or no line is selected, or the core does not run after the wake. -/
theorem noInterrupt : Obligations.NoInterrupt := by
  intro s hq h
  rw [State.prepare_of_no_event hq]
  rcases h with hm | hp | hr
  · exact State.takeInterrupt_eq_self (.inl hm)
  · exact State.takeInterrupt_eq_self (.inr ((congrArg leastLine hp).trans leastLine_zero))
  · exact State.takeInterrupt_of_not_running (by simp [hr])

end Sys2Proof.Machine
end

section
/-! PROOF. The timer: one cycle as the rules count it over numbers, and TIMA as the number of rising edges of the
selected bit (R384 to R386). -/

namespace Sys2Proof.Machine

open Sys2Proof.Claims

/-! ### The edge of one cycle (R385) -/

theorem selBit_eq (tac : BitVec 3) :
    selBit tac = match tac.toNat % 4 with
      | 0 => 9
      | 1 => 3
      | 2 => 5
      | _ => 7 := by
  revert tac; decide

theorem selBit_cases (tac : BitVec 3) : selBit tac = 9 ∨ selBit tac = 3 ∨ selBit tac = 5 ∨ selBit tac = 7 := by
  revert tac; decide

theorem tac_enabled_iff (tac : BitVec 3) : tac.getLsbD 2 = true ↔ tac.toNat ≥ 4 := by
  revert tac; decide

theorem word_bit_toNat (w : Word) (i : Nat) : bit w.toNat i = (w.getLsbD i).toNat := (Nat.toNat_testBit w.toNat i).symm

/-- The edge of a cycle over the bits of numbers. -/
theorem timerEdge_iff (tac : BitVec 3) (d : Word) :
    timerEdge tac d (d + 1) = true ↔
      tac.toNat ≥ 4 ∧ bit d.toNat (selBit tac) = 0 ∧ bit ((d.toNat + 1) % 65536) (selBit tac) = 1 := by
  have hnew : (d.toNat + 1) % 65536 = (d + 1).toNat := by simp [BitVec.toNat_add]
  rw [hnew, word_bit_toNat, word_bit_toNat, ← tac_enabled_iff, timerEdge]
  simp [and_assoc]

/-- Settles O40. -/
theorem timerCycle : Obligations.TimerCycle := by
  intro s old b edge
  have hedge : timerEdge s.timer.tac s.timer.div (s.timer.div + 1) = true ↔ edge := by
    have h := timerEdge_iff s.timer.tac s.timer.div
    rw [selBit_eq] at h
    exact h
  have hone : s.timerAdvance 1 = s.timerTick := rfl
  refine ⟨rfl, fun n => rfl, fun he => ?_, fun he ht => ?_, fun he ht => ?_⟩
  · rw [hone, State.timerTick_eq, if_neg (mt hedge.1 he)]
  · rw [hone, State.timerTick_eq, if_pos (hedge.2 he), if_neg ht]
  · rw [hone, State.timerTick_eq, if_pos (hedge.2 he), if_pos ht]

/-! ### Many cycles (R386) -/

/-- Over numbers, for the bits that can be selected: the first cycle has an edge or not, and the rest is counted from
the counter it leaves. -/
theorem risingEdges_succ_nat {b d : Nat} (hb : b = 9 ∨ b = 3 ∨ b = 5 ∨ b = 7) (n : Nat) :
    risingEdges b d (n + 1) =
      (if bit d b = 0 ∧ bit ((d + 1) % 65536) b = 1 then 1 else 0) + risingEdges b ((d + 1) % 65536) n := by
  unfold bit risingEdges
  split_ifs <;> rcases hb with rfl | rfl | rfl | rfl <;> omega

/-- While TAC bit 2 is set, the edge of the first cycle and the edges after it make up the count. -/
theorem risingEdges_succ (tac : BitVec 3) (d : Word) (n : Nat) (h : tac.getLsbD 2 = true) :
    risingEdges (selBit tac) d.toNat (n + 1) =
      (timerEdge tac d (d + 1)).toNat + risingEdges (selBit tac) (d + 1).toNat n := by
  have hnew : (d + 1).toNat = (d.toNat + 1) % 65536 := by simp [BitVec.toNat_add]
  have hedge := timerEdge_iff tac d
  rw [and_iff_right (tac_enabled_iff tac |>.1 h)] at hedge
  rw [hnew, risingEdges_succ_nat (selBit_cases tac), ← if_congr hedge rfl rfl]
  cases timerEdge tac d (d + 1) <;> rfl

/-- With TAC bit 2 clear there is no edge (R385). -/
theorem State.timerTick_disabled {s : State} (h : s.timer.tac.getLsbD 2 = false) :
    s.timerTick = s.setDivCounter (s.timer.div + 1) := by
  rw [State.timerTick, timerEdge, h]
  rfl

theorem State.timerAdvance_disabled (n : Nat) {s : State} (h : s.timer.tac.getLsbD 2 = false) :
    s.timerAdvance n = s.setDivCounter (s.timer.div + BitVec.ofNat 16 n) := by
  induction n generalizing s with
  | zero => simp [State.timerAdvance, State.setDivCounter]
  | succ n ih =>
    have hd : s.timer.div + 1 + BitVec.ofNat 16 n = s.timer.div + BitVec.ofNat 16 (n + 1) := by
      rw [BitVec.add_assoc, Nat.add_comm n 1, BitVec.ofNat_add]
      rfl
    rw [State.timerAdvance, State.timerTick_disabled h, ih (s := s.setDivCounter (s.timer.div + 1)) h, ← hd]
    rfl

/-- While TIMA does not overflow, a cycle adds its edge to TIMA and requests nothing (R386). -/
theorem State.timerTick_counts {s : State}
    (h : s.timer.tima.toNat + (timerEdge s.timer.tac s.timer.div (s.timer.div + 1)).toNat < 256) :
    s.timerTick.timer.tima.toNat =
        s.timer.tima.toNat + (timerEdge s.timer.tac s.timer.div (s.timer.div + 1)).toNat ∧
      s.timerTick.int = s.int := by
  rw [State.timerTick_eq]
  cases he : timerEdge s.timer.tac s.timer.div (s.timer.div + 1) <;> rw [he] at h
  · exact ⟨rfl, rfl⟩
  · have hlt : s.timer.tima.toNat + 1 < 256 := h
    have hne : s.timer.tima ≠ 0xFF := by
      intro e
      rw [e] at hlt
      exact absurd hlt (by decide)
    rw [if_pos rfl, if_neg hne]
    exact ⟨BitVec.toNat_add_of_lt hlt, rfl⟩

theorem State.timerTick_div (s : State) : s.timerTick.timer.div = s.timer.div + 1 := s.timerAdvance_div 1

theorem State.timerTick_tac (s : State) : s.timerTick.timer.tac = s.timer.tac := by
  obtain ⟨d, x, v, h⟩ := s.timerTick_only
  rw [h]
  rfl

/-- TIMA counts the rising edges while their number stays below the overflow. -/
theorem State.timerAdvance_counts (n : Nat) {s : State} (h : s.timer.tac.getLsbD 2 = true)
    (hlt : s.timer.tima.toNat + risingEdges (selBit s.timer.tac) s.timer.div.toNat n < 256) :
    (s.timerAdvance n).timer.tima.toNat =
        s.timer.tima.toNat + risingEdges (selBit s.timer.tac) s.timer.div.toNat n ∧
      (s.timerAdvance n).int = s.int := by
  induction n generalizing s with
  | zero => simp [State.timerAdvance, risingEdges]
  | succ n ih =>
    rw [risingEdges_succ _ _ _ h] at hlt ⊢
    obtain ⟨htima, hint⟩ := State.timerTick_counts (s := s) (by omega)
    have rest := ih (s := s.timerTick) (by rw [State.timerTick_tac]; exact h)
    rw [State.timerTick_tac, State.timerTick_div, htima, hint, Nat.add_assoc] at rest
    exact rest hlt

/-- Settles O41. -/
theorem timerCounts : Obligations.TimerCounts := by
  intro s n
  have kept : (s.timerAdvance n).timer.tma = s.timer.tma ∧ (s.timerAdvance n).timer.tac = s.timer.tac := by
    obtain ⟨d, x, v, h⟩ := s.timerAdvance_only n
    rw [h]
    exact ⟨rfl, rfl⟩
  obtain ⟨htma, htac⟩ := kept
  exact ⟨s.timerAdvance_div n, htma, htac, State.timerAdvance_disabled n, State.timerAdvance_counts n⟩

end Sys2Proof.Machine
end

section
/-! PROOF. The PPU: the six transitions at the end of a state (R404), cycles cut anyhow (R402), and a whole frame
(R409). -/

namespace Sys2Proof.Machine

open Sys2Proof.Claims

/-! ### The position of the PPU -/

/-- A row is drawn from the LCD registers and storage alone: the position, LY, IF and the outputs do not show (R414). -/
theorem renderLine_withPpu (s : State) (m : PpuMode) (dot line : Nat) (ly : Byte) (v : BitVec 5) (os : List Output)
    (y : Nat) : renderLine (s.withPpu m dot line ly v os) y = renderLine s y := rfl

theorem State.withPpu_withPpu (s : State) (m m' : PpuMode) (dot dot' line line' : Nat) (ly ly' : Byte)
    (v v' : BitVec 5) (os os' : List Output) :
    (s.withPpu m dot line ly v os).withPpu m' dot' line' ly' v' os' = s.withPpu m' dot' line' ly' v' (os ++ os') := by
  simp [State.withPpu]

/-- A position written without an output. -/
theorem State.withPpu_nil (s : State) (m : PpuMode) (dot line : Nat) (ly : Byte) (v : BitVec 5) :
    s.withPpu m dot line ly v [] =
      { s with
        ppu := { s.ppu with mode := m, dot := dot, line := line, ly := ly }, int := { s.int with if_ := v } } := by
  simp [State.withPpu]

theorem State.withPpu_self (s : State) :
    s.withPpu s.ppu.mode s.ppu.dot s.ppu.line s.ppu.ly s.int.if_ [] = s := State.withPpu_nil ..

/-- IF after a request of line 1 that STAT bit 3 + `k` allows (R404, R407). -/
def statIf (s : State) (k : Nat) (v : BitVec 5) : BitVec 5 := if s.ppu.statSel.getLsbD k then v ||| 0b00010 else v

/-- A request of line 1 leaves line 0 as it is. -/
theorem statIf_getLsbD_zero (s : State) (k : Nat) (v : BitVec 5) : (statIf s k v).getLsbD 0 = v.getLsbD 0 := by
  unfold statIf
  split
  · rw [BitVec.getLsbD_or]; exact Bool.or_false _
  · rfl

/-! ### The loop of `PpuAdvance` (R402) -/

theorem PpuMode.budget_pos (m : PpuMode) : 0 < m.budget := by cases m <;> decide

/-- The loop stops below the budget, whatever fuel is left. -/
theorem State.ppuLoop_of_lt {s : State} (h : s.ppu.dot < s.ppu.mode.budget) (fuel : Nat) :
    State.ppuLoop fuel s = s := by
  cases fuel with
  | zero => rfl
  | succ k => exact if_pos h

/-- A turn takes the budget away and leaves the state. -/
theorem State.ppuLoop_of_ge {s : State} (h : s.ppu.mode.budget ≤ s.ppu.dot) (fuel : Nat) :
    State.ppuLoop (fuel + 1) s = State.ppuLoop fuel (s.setDot (s.ppu.dot - s.ppu.mode.budget)).leaveMode :=
  if_neg (Nat.not_lt.2 h)

/-- Cycles that exactly use up a state leave it and nothing more. -/
theorem State.ppuAdvance_of_budget {s : State} {n : Nat} (hon : s.lcdOn = true)
    (h : s.ppu.dot + n = s.ppu.mode.budget) : s.ppuAdvance n = (s.setDot 0).leaveMode := by
  obtain ⟨k, hk⟩ := Nat.exists_eq_succ_of_ne_zero (s.ppu.mode.budget_pos.ne')
  have turn := State.ppuLoop_of_ge (s := s.setDot s.ppu.mode.budget) (Nat.le_refl s.ppu.mode.budget) k
  rw [State.ppuAdvance, if_pos hon, h]
  rw [hk] at turn ⊢
  rw [turn, State.ppuLoop_of_lt]
  · simp [State.setDot, hk]
  · rw [State.leaveMode_dot]
    simp [State.setDot, hk, PpuMode.budget_pos]

/-! ### The transitions (R404) -/

section Transitions

variable {s : State} {n : Nat} (hon : s.lcdOn = true)

include hon

theorem State.ppuAdvance_oamSearch (hm : s.ppu.mode = .oamSearch) (hn : s.ppu.dot + n = 80) :
    s.ppuAdvance n = s.withPpu .pixelTransfer 0 s.ppu.line s.ppu.ly s.int.if_
      [.drawLine s.ppu.line (renderLine s s.ppu.line)] := by
  rw [State.ppuAdvance_of_budget hon (by rw [hm]; exact hn), State.leaveMode, State.setDot_ppu_mode, hm]
  rfl

theorem State.ppuAdvance_pixelTransfer (hm : s.ppu.mode = .pixelTransfer) (hn : s.ppu.dot + n = 172) :
    s.ppuAdvance n = s.withPpu .hBlank 0 s.ppu.line s.ppu.ly (statIf s 0 s.int.if_) [] := by
  rw [State.ppuAdvance_of_budget hon (by rw [hm]; exact hn), State.leaveMode, State.setDot_ppu_mode, hm]
  simp only [State.enterHBlank, State.statRequest_eq, State.withPpu, List.append_nil]
  rfl

theorem State.ppuAdvance_hBlank (hm : s.ppu.mode = .hBlank) (hn : s.ppu.dot + n = 204) (hl : s.ppu.line ≠ 143) :
    s.ppuAdvance n = s.withPpu .oamSearch 0 (s.ppu.line + 1) (BitVec.ofNat 8 (s.ppu.line + 1))
      (statIf s 2 s.int.if_) [] := by
  rw [State.ppuAdvance_of_budget hon (by rw [hm]; exact hn), State.leaveMode, State.setDot_ppu_mode, hm]
  have more : ¬ (s.setDot 0).ppu.line + 1 = 144 := fun h => hl (Nat.succ.inj h)
  simp only [State.endOfLine, if_neg more, State.enterOamSearch, State.statRequest_eq, State.withPpu,
    List.append_nil]
  rfl

theorem State.ppuAdvance_hBlank_last (hm : s.ppu.mode = .hBlank) (hn : s.ppu.dot + n = 204) (hl : s.ppu.line = 143) :
    s.ppuAdvance n = s.withPpu .vBlank 0 144 144 (statIf s 1 (s.int.if_ ||| 0b00001)) [.frameComplete] := by
  rw [State.ppuAdvance_of_budget hon (by rw [hm]; exact hn), State.leaveMode, State.setDot_ppu_mode, hm]
  have last : (s.setDot 0).ppu.line + 1 = 144 := congrArg (· + 1) hl
  simp only [State.endOfLine, State.statRequest_eq, last]
  rfl

theorem State.ppuAdvance_vBlank (hm : s.ppu.mode = .vBlank) (hn : s.ppu.dot + n = 456) (hl : s.ppu.line ≠ 153) :
    s.ppuAdvance n = s.withPpu .vBlank 0 (s.ppu.line + 1) (BitVec.ofNat 8 (s.ppu.line + 1)) s.int.if_ [] := by
  rw [State.ppuAdvance_of_budget hon (by rw [hm]; exact hn), State.leaveMode, State.setDot_ppu_mode, hm]
  have more : ¬ (s.setDot 0).ppu.line + 1 = 154 := fun h => hl (Nat.succ.inj h)
  simp only [State.endOfVBlankLine, if_neg more, State.withPpu, List.append_nil, ← hm]
  rfl

theorem State.ppuAdvance_vBlank_last (hm : s.ppu.mode = .vBlank) (hn : s.ppu.dot + n = 456) (hl : s.ppu.line = 153) :
    s.ppuAdvance n = s.withPpu .oamSearch 0 0 0 (statIf s 2 s.int.if_) [] := by
  rw [State.ppuAdvance_of_budget hon (by rw [hm]; exact hn), State.leaveMode, State.setDot_ppu_mode, hm]
  have last : (s.setDot 0).ppu.line + 1 = 154 := congrArg (· + 1) hl
  simp only [State.endOfVBlankLine, if_pos last, State.enterOamSearch, State.statRequest_eq, State.withPpu,
    List.append_nil]
  rfl

end Transitions

/-- Settles O42: the six transitions, written as updates of the fields each one changes. -/
theorem ppuTransitions : Obligations.PpuTransitions := by
  intro s n hon _ _ j next
  refine ⟨State.ppuAdvance_oamSearch hon, fun hm hn => ?_, fun hm hn hl => ?_, State.ppuAdvance_hBlank_last hon,
    fun hm hn hl => ?_, fun hm hn hl => ?_⟩
  · exact (State.ppuAdvance_pixelTransfer hon hm hn).trans (s.withPpu_nil ..)
  · exact (State.ppuAdvance_hBlank hon hm hn hl).trans (s.withPpu_nil ..)
  · rw [State.ppuAdvance_vBlank hon hm hn hl, State.withPpu_nil, ← hm]
  · exact (State.ppuAdvance_vBlank_last hon hm hn hl).trans (s.withPpu_nil ..)

/-! ### Cycles cut into parts (R402) -/

/-- No transition looks at the dot. -/
theorem State.leaveMode_setDot (s : State) (d : Nat) : (s.setDot d).leaveMode = s.leaveMode.setDot d := by
  unfold State.leaveMode
  rw [State.setDot_ppu_mode]
  cases s.ppu.mode with
  | oamSearch => rfl
  | pixelTransfer =>
    simp only [State.enterHBlank, State.statRequest_eq]
    rfl
  | hBlank =>
    simp only [State.endOfLine, State.enterOamSearch, State.statRequest_eq, State.setDot_ppu_line]
    split <;> rfl
  | vBlank =>
    simp only [State.endOfVBlankLine, State.enterOamSearch, State.statRequest_eq, State.setDot_ppu_line]
    split <;> rfl

/-- Fuel for the dot is enough: more of it changes nothing. -/
theorem State.ppuLoop_fuel (f g : Nat) {s : State} (hf : s.ppu.dot ≤ f) (hg : s.ppu.dot ≤ g) :
    State.ppuLoop f s = State.ppuLoop g s := by
  induction f generalizing s g with
  | zero =>
    have below : s.ppu.dot < s.ppu.mode.budget := Nat.lt_of_le_of_lt hf s.ppu.mode.budget_pos
    exact (State.ppuLoop_of_lt below g).symm
  | succ f ih =>
    have hpos := s.ppu.mode.budget_pos
    rcases Nat.lt_or_ge s.ppu.dot s.ppu.mode.budget with below | above
    · rw [State.ppuLoop_of_lt below, State.ppuLoop_of_lt below]
    · obtain ⟨g, rfl⟩ : ∃ k, g = k + 1 := ⟨g - 1, by omega⟩
      have hdot : (s.setDot (s.ppu.dot - s.ppu.mode.budget)).leaveMode.ppu.dot = s.ppu.dot - s.ppu.mode.budget :=
        State.leaveMode_dot _
      rw [State.ppuLoop_of_ge above, State.ppuLoop_of_ge above]
      exact ih g (by omega) (by omega)

/-- The loop of `PpuAdvance` on the cycles that stand in the dot. -/
def State.ppuRun (s : State) : State := State.ppuLoop s.ppu.dot s

/-- The state with `n` more cycles standing in the dot. -/
def State.addDots (s : State) (n : Nat) : State := s.setDot (s.ppu.dot + n)

theorem State.ppuAdvance_eq_run {s : State} (hon : s.lcdOn = true) (n : Nat) :
    s.ppuAdvance n = (s.addDots n).ppuRun := if_pos hon

theorem State.ppuRun_of_lt {s : State} (h : s.ppu.dot < s.ppu.mode.budget) : s.ppuRun = s :=
  State.ppuLoop_of_lt h _

theorem State.ppuRun_of_ge {s : State} (h : s.ppu.mode.budget ≤ s.ppu.dot) :
    s.ppuRun = (s.setDot (s.ppu.dot - s.ppu.mode.budget)).leaveMode.ppuRun := by
  have turn := State.ppuLoop_of_ge h s.ppu.dot
  rw [State.ppuRun, State.ppuLoop_fuel _ (s.ppu.dot + 1) (Nat.le_refl _) (Nat.le_succ _), turn]
  refine State.ppuLoop_fuel _ _ ?_ (Nat.le_refl _)
  rw [State.leaveMode_dot]
  exact Nat.sub_le _ _

/-- Cycles that come after the loop go the same way as cycles that stood in the dot before it. -/
theorem State.ppuRun_addDots (s : State) (n : Nat) : (s.addDots n).ppuRun = (s.ppuRun.addDots n).ppuRun := by
  induction h : s.ppu.dot using Nat.strong_induction_on generalizing s with
  | _ d ih =>
    subst h
    rcases Nat.lt_or_ge s.ppu.dot s.ppu.mode.budget with below | above
    · rw [State.ppuRun_of_lt below]
    · have hpos := s.ppu.mode.budget_pos
      let u := (s.setDot (s.ppu.dot - s.ppu.mode.budget)).leaveMode
      have hdot : u.ppu.dot = s.ppu.dot - s.ppu.mode.budget := State.leaveMode_dot _
      have turn : (s.addDots n).ppuRun = (u.addDots n).ppuRun := by
        have hu : u.addDots n = (s.setDot (s.ppu.dot + n - s.ppu.mode.budget)).leaveMode := by
          have hleave : u = s.leaveMode.setDot (s.ppu.dot - s.ppu.mode.budget) := s.leaveMode_setDot _
          rw [State.addDots, hdot, ← Nat.sub_add_comm above, State.leaveMode_setDot, hleave]
          rfl
        rw [hu]
        exact State.ppuRun_of_ge (Nat.le_add_right_of_le above)
      rw [turn, ih _ (by omega) u rfl, ← State.ppuRun_of_ge above]

/-- `PpuAdvance` leaves LCDC alone (R402). -/
theorem State.ppuAdvance_lcdOn (s : State) (n : Nat) : (s.ppuAdvance n).lcdOn = s.lcdOn := by
  obtain ⟨m, dot, line, ly, v, os, h⟩ := s.ppuAdvance_only n
  rw [h]
  rfl

theorem State.ppuAdvance_off {s : State} (hoff : s.lcdOn = false) (n : Nat) : s.ppuAdvance n = s :=
  if_neg (by simp [hoff])

/-- The cycles may be cut anywhere, in every position of the PPU. -/
theorem State.ppuAdvance_add (s : State) (m n : Nat) : s.ppuAdvance (m + n) = (s.ppuAdvance m).ppuAdvance n := by
  have hkeep := s.ppuAdvance_lcdOn m
  cases hon : s.lcdOn
  · rw [State.ppuAdvance_off hon, State.ppuAdvance_off hon, State.ppuAdvance_off hon]
  · have hsum : s.addDots (m + n) = (s.addDots m).addDots n := by
      simp [State.addDots, State.setDot, Nat.add_assoc]
    rw [State.ppuAdvance_eq_run (hkeep.trans hon), State.ppuAdvance_eq_run hon, State.ppuAdvance_eq_run hon, hsum]
    exact State.ppuRun_addDots (s.addDots m) n

/-- Settles O43. -/
theorem ppuAdvanceAdds : Obligations.PpuAdvanceAdds := fun s m n _ => s.ppuAdvance_add m n

/-! ### A frame (R409) -/

/-- The outputs of the first `n` lines of a frame. -/
def drawnRows (s : State) (n : Nat) : List Output := (List.range n).map fun y => .drawLine y (renderLine s y)

theorem drawnRows_succ (s : State) (n : Nat) :
    drawnRows s (n + 1) = drawnRows s n ++ [.drawLine n (renderLine s n)] := by
  simp [drawnRows, List.range_succ]

theorem filterMap_lineOf_drawnRows (s : State) (n : Nat) : (drawnRows s n).filterMap lineOf = List.range n := by
  simp [drawnRows, List.filterMap_map, Function.comp_def, lineOf]

theorem count_frameComplete_drawnRows (s : State) (n : Nat) : (drawnRows s n).count .frameComplete = 0 := by
  simp [drawnRows, List.count_eq_zero]

theorem length_drawnRows (s : State) (n : Nat) : (drawnRows s n).length = n := by simp [drawnRows]

section Frame

variable {s : State} (hon : s.lcdOn = true)

include hon

/-- From the start of a visible line to its horizontal blank: the row comes out (R400, R404). -/
theorem State.withPpu_draw (line : Nat) (ly : Byte) (v : BitVec 5) (os : List Output) :
    (s.withPpu .oamSearch 0 line ly v os).ppuAdvance (80 + 172) =
      s.withPpu .hBlank 0 line ly (statIf s 0 v) (os ++ [.drawLine line (renderLine s line)]) := by
  let start := s.withPpu .oamSearch 0 line ly v os
  let drawn := s.withPpu .pixelTransfer 0 line ly v (os ++ [.drawLine line (renderLine s line)])
  have draw : start.ppuAdvance 80 = drawn := by
    rw [State.ppuAdvance_oamSearch (s := start) hon rfl rfl, renderLine_withPpu, State.withPpu_withPpu]
    rfl
  have blank := State.ppuAdvance_pixelTransfer (s := drawn) hon rfl (n := 172) rfl
  rw [State.ppuAdvance_add, draw, blank, State.withPpu_withPpu, List.append_nil]
  rfl

/-- A visible line but the last is followed by the next one. -/
theorem State.withPpu_line {line : Nat} (hl : line ≠ 143) (ly : Byte) (v : BitVec 5) (os : List Output) :
    (s.withPpu .oamSearch 0 line ly v os).ppuAdvance 456 =
      s.withPpu .oamSearch 0 (line + 1) (BitVec.ofNat 8 (line + 1)) (statIf s 2 (statIf s 0 v))
        (os ++ [.drawLine line (renderLine s line)]) := by
  let drawn := s.withPpu .hBlank 0 line ly (statIf s 0 v) (os ++ [.drawLine line (renderLine s line)])
  have next := State.ppuAdvance_hBlank (s := drawn) hon rfl (n := 204) rfl hl
  rw [show 456 = 80 + 172 + 204 from rfl, State.ppuAdvance_add, State.withPpu_draw hon, next,
    State.withPpu_withPpu, List.append_nil]
  rfl

/-- Line 143 is followed by vertical blank, with a request of line 0 and `frame_complete` (R404, R408). -/
theorem State.withPpu_line_143 (ly : Byte) (v : BitVec 5) (os : List Output) :
    (s.withPpu .oamSearch 0 143 ly v os).ppuAdvance 456 =
      s.withPpu .vBlank 0 144 144 (statIf s 1 (statIf s 0 v ||| 0b00001))
        (os ++ [.drawLine 143 (renderLine s 143)] ++ [.frameComplete]) := by
  let drawn := s.withPpu .hBlank 0 143 ly (statIf s 0 v) (os ++ [.drawLine 143 (renderLine s 143)])
  have blank := State.ppuAdvance_hBlank_last (s := drawn) hon rfl (n := 204) rfl rfl
  rw [show 456 = 80 + 172 + 204 from rfl, State.ppuAdvance_add, State.withPpu_draw hon, blank,
    State.withPpu_withPpu]
  rfl

theorem State.withPpu_vBlankLine {line : Nat} (hl : line ≠ 153) (ly : Byte) (v : BitVec 5) (os : List Output) :
    (s.withPpu .vBlank 0 line ly v os).ppuAdvance 456 =
      s.withPpu .vBlank 0 (line + 1) (BitVec.ofNat 8 (line + 1)) v os := by
  have next := State.ppuAdvance_vBlank (s := s.withPpu .vBlank 0 line ly v os) hon rfl (n := 456) rfl hl
  rw [next, State.withPpu_withPpu, List.append_nil]
  rfl

theorem State.withPpu_vBlankLine_153 (ly : Byte) (v : BitVec 5) (os : List Output) :
    (s.withPpu .vBlank 0 153 ly v os).ppuAdvance 456 = s.withPpu .oamSearch 0 0 0 (statIf s 2 v) os := by
  have home := State.ppuAdvance_vBlank_last (s := s.withPpu .vBlank 0 153 ly v os) hon rfl (n := 456) rfl rfl
  rw [home, State.withPpu_withPpu, List.append_nil]
  rfl

/-- After `y` lines of a frame the PPU starts line `y`, and their rows are out in order. -/
theorem State.withPpu_lines (ly : Byte) (v : BitVec 5) (y : Nat) (hy : y ≤ 143) :
    ∃ ly' v', (s.withPpu .oamSearch 0 0 ly v []).ppuAdvance (456 * y) =
      s.withPpu .oamSearch 0 y ly' v' (drawnRows s y) := by
  induction y with
  | zero =>
    have run := State.ppuAdvance_eq_run (s := s.withPpu .oamSearch 0 0 ly v []) hon 0
    exact ⟨ly, v, run.trans (State.ppuRun_of_lt (show 0 < 80 by decide))⟩
  | succ y ih =>
    obtain ⟨ly', v', h⟩ := ih (by omega)
    rw [Nat.mul_succ, State.ppuAdvance_add, h, State.withPpu_line hon (by omega), drawnRows_succ]
    exact ⟨_, _, rfl⟩

/-- After the 144 lines and `k` lines of vertical blank, line 0 of IF is requested and the frame's outputs are out. -/
theorem State.withPpu_vBlankLines (ly : Byte) (v : BitVec 5) (k : Nat) (hk : k ≤ 9) :
    ∃ ly' v', v'.getLsbD 0 = true ∧ (s.withPpu .oamSearch 0 0 ly v []).ppuAdvance (456 * (144 + k)) =
      s.withPpu .vBlank 0 (144 + k) ly' v' (drawnRows s 144 ++ [.frameComplete]) := by
  induction k with
  | zero =>
    obtain ⟨ly', v', h⟩ := State.withPpu_lines hon ly v 143 (Nat.le_refl _)
    have requested : (statIf s 1 (statIf s 0 v' ||| 0b00001)).getLsbD 0 = true := by
      rw [statIf_getLsbD_zero, BitVec.getLsbD_or]
      exact Bool.or_true _
    refine ⟨144, _, requested, ?_⟩
    rw [show 456 * (144 + 0) = 456 * 143 + 456 from rfl, State.ppuAdvance_add, h, State.withPpu_line_143 hon,
      drawnRows_succ s 143]
  | succ k ih =>
    obtain ⟨ly', v', hv, h⟩ := ih (by omega)
    have next := State.withPpu_vBlankLine hon (line := 144 + k) (by omega) ly' v' (drawnRows s 144 ++ [.frameComplete])
    exact ⟨_, v', hv, by rw [← Nat.add_assoc, Nat.mul_succ, State.ppuAdvance_add, h, next]⟩

/-- The 154 lines of a frame end where they began, with LY 0. -/
theorem State.withPpu_frame (ly : Byte) (v : BitVec 5) :
    ∃ v' : BitVec 5, v'.getLsbD 0 = true ∧ (s.withPpu .oamSearch 0 0 ly v []).ppuAdvance 70224 =
      s.withPpu .oamSearch 0 0 0 v' (drawnRows s 144 ++ [.frameComplete]) := by
  obtain ⟨ly', v', hv, h⟩ := State.withPpu_vBlankLines hon ly v 9 (Nat.le_refl _)
  refine ⟨statIf s 2 v', (statIf_getLsbD_zero s 2 v').trans hv, ?_⟩
  rw [show 70224 = 456 * (144 + 9) + 456 from rfl, State.ppuAdvance_add, h, State.withPpu_vBlankLine_153 hon]

end Frame

/-- Settles O44. -/
theorem frameTiming : Obligations.FrameTiming := by
  intro s hon hm hd hl t
  have start := s.withPpu_self
  rw [hm, hd, hl] at start
  obtain ⟨v, hv, h⟩ := State.withPpu_frame hon s.ppu.ly s.int.if_
  have ht : t = s.withPpu .oamSearch 0 0 0 v (drawnRows s 144 ++ [.frameComplete]) := by rw [← h, start]
  have home : (s.withPpu .oamSearch 0 0 0 v (drawnRows s 144 ++ [.frameComplete])).ppu = { s.ppu with ly := 0 } :=
    congrArg (fun u : State => { u.ppu with ly := 0 }) start
  rw [ht]
  refine ⟨home, hv, _, rfl, ?_, ?_, ?_⟩
  · rw [List.filterMap_append, filterMap_lineOf_drawnRows]
    rfl
  · rw [List.count_append, count_frameComplete_drawnRows]
    rfl
  · rw [List.length_append, length_drawnRows]
    rfl

end Sys2Proof.Machine
end

section
/-! PROOF. Every instruction but the unassigned one completes, or stops by the fault of an unmapped access (R350, R352,
R354): per shape of Operands.lean, then per row of the map. -/

namespace Sys2Proof.Machine

/-! ### Outcomes of a bus operation and of an instruction -/

/-- An outcome is a next state or, with BUS_STRICT set in `s`, the fault of an unmapped access. -/
def NextOrUnmapped (s : State) (r : Result) : Prop :=
  (∃ t, r = .next t) ∨ (s.params.busStrict = true ∧ ∃ a k, r = .fault (.busUnmapped a k))

theorem nextOrUnmapped_next {s t : State} : NextOrUnmapped s (.next t) := .inl ⟨t, rfl⟩

theorem busStrict_of_not_answers {s : State} {a : Word} (h : ¬ s.answers a = true) : s.params.busStrict = true := by
  simp only [State.answers, Bool.or_eq_true, Bool.not_eq_true', not_or, Bool.not_eq_false] at h
  exact h.1

/-- A bus operation that asks for an address goes on, or faults at that address. -/
theorem nextOrUnmapped_ask {α : Type} {s : State} {a : Word} {m : AccessKind} {e : Except Fault α} {k : α → Result}
    (h : NextOrUnmapped s (andThen e k)) :
    NextOrUnmapped s (andThen (if s.answers a = true then e else .error (.busUnmapped a m)) k) := by
  split
  · exact h
  · exact .inr ⟨busStrict_of_not_answers ‹_›, a, m, rfl⟩

theorem nextOrUnmapped_read {s : State} {a : Word} {k : Byte → Result} (h : NextOrUnmapped s (k (s.readByte a))) :
    NextOrUnmapped s (andThen (s.memRead a) k) := by
  rw [State.memRead_eq]
  exact nextOrUnmapped_ask h

theorem nextOrUnmapped_write {s : State} {a : Word} {v : Byte} {k : State → Result}
    (h : NextOrUnmapped s (k (s.wrote a v))) :
    NextOrUnmapped s (andThen (s.memWrite a v) k) := by
  rw [State.memWrite_eq]
  exact nextOrUnmapped_ask h

theorem nextOrUnmapped_writeWord {s : State} {a v : Word} {k : State → Result}
    (h : NextOrUnmapped s (k (s.wroteWord a v))) :
    NextOrUnmapped s (andThen (s.memWrite16 a v) k) := by
  rw [State.memWrite16_eq]
  exact nextOrUnmapped_ask (nextOrUnmapped_ask h)

theorem nextOrUnmapped_push {s : State} {v : Word} {k : State → Result}
    (h : NextOrUnmapped s (k ((s.setSP (s.regs.sp - 2)).wroteWord (s.regs.sp - 2) v))) :
    NextOrUnmapped s (andThen (s.push16 v) k) := by
  rw [State.push16_eq]
  exact nextOrUnmapped_ask (nextOrUnmapped_ask h)

theorem nextOrUnmapped_pop {s : State} {k : Word × State → Result}
    (h : NextOrUnmapped s (k (s.readWord s.regs.sp, s.setSP (s.regs.sp + 2)))) :
    NextOrUnmapped s (andThen s.pop16 k) := by
  rw [State.pop16_eq]
  exact nextOrUnmapped_ask (nextOrUnmapped_ask h)

/-! ### The shapes -/

section Shapes

variable (s : State)

theorem loadReg_nextOrUnmapped (dst : Reg8) (a : Word) (n : Nat) : NextOrUnmapped s (loadReg dst a n s) :=
  nextOrUnmapped_read nextOrUnmapped_next

theorem storeByte_nextOrUnmapped (a : Word) (v : Byte) (n : Nat) : NextOrUnmapped s (storeByte a v n s) :=
  nextOrUnmapped_write nextOrUnmapped_next

theorem loadStepHL_nextOrUnmapped (d : Word) : NextOrUnmapped s (loadStepHL d s) :=
  nextOrUnmapped_read nextOrUnmapped_next

theorem storeStepHL_nextOrUnmapped (d : Word) : NextOrUnmapped s (storeStepHL d s) :=
  nextOrUnmapped_write nextOrUnmapped_next

theorem storeSP_nextOrUnmapped (nn : Word) : NextOrUnmapped s (storeSP nn s) :=
  nextOrUnmapped_writeWord nextOrUnmapped_next

theorem pushPair_nextOrUnmapped (p : StkReg) : NextOrUnmapped s (pushPair p s) :=
  nextOrUnmapped_push nextOrUnmapped_next

theorem popPair_nextOrUnmapped (p : StkReg) : NextOrUnmapped s (popPair p s) := nextOrUnmapped_pop nextOrUnmapped_next

theorem aluInd_nextOrUnmapped (op : AluOp) : NextOrUnmapped s (aluInd op s) := nextOrUnmapped_read nextOrUnmapped_next

theorem modifyInd_nextOrUnmapped (f : Byte → Byte × Flags) (n : Nat) : NextOrUnmapped s (modifyInd f n s) :=
  nextOrUnmapped_read (nextOrUnmapped_write nextOrUnmapped_next)

theorem jumpTo_nextOrUnmapped (a : Word) (n : Nat) : NextOrUnmapped s (jumpTo a n s) := nextOrUnmapped_next

theorem callTo_nextOrUnmapped (a : Word) (n : Nat) : NextOrUnmapped s (callTo a n s) :=
  nextOrUnmapped_push nextOrUnmapped_next

theorem returnWith_nextOrUnmapped (n : Nat) : NextOrUnmapped s (returnWith n s) :=
  nextOrUnmapped_pop nextOrUnmapped_next

/-- RETI goes on as a pop does (R319). -/
theorem execReti_eq_pop :
    execReti s = andThen s.pop16 fun p => .next (((p.2.setPC p.1).setIme true).charge 16) := by
  rw [execReti, State.returnFromInterrupt]
  cases s.pop16 <;> rfl

theorem execReti_nextOrUnmapped : NextOrUnmapped s (execReti s) := by
  rw [execReti_eq_pop]
  exact nextOrUnmapped_pop nextOrUnmapped_next

theorem conditional_nextOrUnmapped (cc : Cond) {f : State → Result} (h : NextOrUnmapped s (f s)) (n : Nat) :
    NextOrUnmapped s (conditional cc f n s) := by
  unfold conditional
  split
  · exact h
  · exact nextOrUnmapped_next

theorem rotOpnd_nextOrUnmapped (op : RotOp) (o : Opnd8) : NextOrUnmapped s (rotOpnd op o s) := by
  cases o with
  | reg r => exact nextOrUnmapped_next
  | mHL => exact modifyInd_nextOrUnmapped s _ 16

theorem bitOpnd_nextOrUnmapped (n : Nat) (o : Opnd8) : NextOrUnmapped s (bitOpnd n o s) := by
  cases o with
  | reg r => exact nextOrUnmapped_next
  | mHL => exact nextOrUnmapped_read nextOrUnmapped_next

theorem replaceOpnd_nextOrUnmapped (f : Byte → Byte) (o : Opnd8) : NextOrUnmapped s (replaceOpnd f o s) := by
  cases o with
  | reg r => exact nextOrUnmapped_next
  | mHL => exact nextOrUnmapped_read (storeByte_nextOrUnmapped s s.hl _ 16)

theorem runCb_nextOrUnmapped (op2 : Byte) : NextOrUnmapped s (runCb op2 s) := by
  unfold runCb
  split
  · exact rotOpnd_nextOrUnmapped s _ _
  · exact bitOpnd_nextOrUnmapped s _ _
  · exact replaceOpnd_nextOrUnmapped s _ _
  · exact replaceOpnd_nextOrUnmapped s _ _

/-- The prefix byte reads its second byte and runs what it selects (R336). -/
theorem execPrefix_CB_nextOrUnmapped : NextOrUnmapped s (execPrefix_CB s) := by
  rw [execPrefix_CB, State.fetch8_eq]
  exact nextOrUnmapped_ask (runCb_nextOrUnmapped (s.setPC (s.regs.pc + 1)) _)

end Shapes

/-! ### The rows of the map -/

theorem ldInstr_nextOrUnmapped (s : State) (o p : Opnd8) : NextOrUnmapped s (exec (ldInstr o p) s) := by
  cases o with
  | reg r => cases p with
    | reg q =>
      rw [exec_ldInstr_reg]
      exact nextOrUnmapped_next
    | mHL =>
      rw [exec_ldInstr_from_mHL]
      exact loadReg_nextOrUnmapped s r s.hl 8
  | mHL => cases p with
    | reg q =>
      rw [exec_ldInstr_to_mHL]
      exact storeByte_nextOrUnmapped s s.hl (s.reg q) 8
    | mHL => exact nextOrUnmapped_next

theorem aluInstr_nextOrUnmapped (s : State) (op : AluOp) (o : Opnd8) : NextOrUnmapped s (exec (aluInstr op o) s) := by
  cases o with
  | reg r =>
    rw [exec_aluInstr_reg]
    exact nextOrUnmapped_next
  | mHL =>
    rw [exec_aluInstr_mHL]
    exact aluInd_nextOrUnmapped s op

theorem incInstr_nextOrUnmapped (s : State) (o : Opnd8) : NextOrUnmapped s (exec (incInstr o) s) := by
  cases o with
  | reg r =>
    rw [exec_incInstr_reg]
    exact nextOrUnmapped_next
  | mHL => exact modifyInd_nextOrUnmapped s (fun v => inc8 v s.flags) 12

theorem decInstr_nextOrUnmapped (s : State) (o : Opnd8) : NextOrUnmapped s (exec (decInstr o) s) := by
  cases o with
  | reg r =>
    rw [exec_decInstr_reg]
    exact nextOrUnmapped_next
  | mHL => exact modifyInd_nextOrUnmapped s (fun v => dec8 v s.flags) 12

theorem ldImmInstr_nextOrUnmapped (s : State) (n : Byte) (o : Opnd8) : NextOrUnmapped s (exec (ldImmInstr n o) s) := by
  cases o with
  | reg r =>
    rw [exec_ldImmInstr_reg]
    exact nextOrUnmapped_next
  | mHL => exact storeByte_nextOrUnmapped s s.hl n 12

/-- Quadrant x = 0 (R128). -/
theorem decodeX0_nextOrUnmapped (s : State) (y z : Oct) (b1 b2 : Byte) :
    NextOrUnmapped s (exec (decodeX0 y z b1 b2) s) := by
  cases z with
  | o0 => cases y with
    | o0 | o2 | o3 => exact nextOrUnmapped_next
    | o1 => exact storeSP_nextOrUnmapped s _
    | o4 | o5 | o6 | o7 => exact conditional_nextOrUnmapped s _ (jumpTo_nextOrUnmapped s _ _) _
  | o1 => cases y <;> exact nextOrUnmapped_next
  | o2 => cases y with
    | o0 | o2 => exact storeByte_nextOrUnmapped s _ _ _
    | o4 | o6 => exact storeStepHL_nextOrUnmapped s _
    | o1 | o3 => exact loadReg_nextOrUnmapped s _ _ _
    | o5 | o7 => exact loadStepHL_nextOrUnmapped s _
  | o3 => cases y <;> exact nextOrUnmapped_next
  | o4 => exact incInstr_nextOrUnmapped s _
  | o5 => exact decInstr_nextOrUnmapped s _
  | o6 => exact ldImmInstr_nextOrUnmapped s b1 _
  | o7 => cases y <;> exact nextOrUnmapped_next

/-- Quadrant x = 3 (R131), but for its unassigned slots. -/
theorem decodeX3_nextOrUnmapped (s : State) (op : Byte) (y z : Oct) (b1 b2 : Byte)
    (h : decodeX3 op y z b1 b2 ≠ .illegal op) : NextOrUnmapped s (exec (decodeX3 op y z b1 b2) s) := by
  cases z with
  | o0 => cases y with
    | o0 | o1 | o2 | o3 => exact conditional_nextOrUnmapped s _ (returnWith_nextOrUnmapped s 20) _
    | o4 => exact storeByte_nextOrUnmapped s _ _ _
    | o5 | o7 => exact nextOrUnmapped_next
    | o6 => exact loadReg_nextOrUnmapped s _ _ _
  | o1 => cases y with
    | o0 | o2 | o4 | o6 => exact popPair_nextOrUnmapped s _
    | o1 => exact returnWith_nextOrUnmapped s 16
    | o3 => exact execReti_nextOrUnmapped s
    | o5 | o7 => exact nextOrUnmapped_next
  | o2 => cases y with
    | o0 | o1 | o2 | o3 => exact conditional_nextOrUnmapped s _ (jumpTo_nextOrUnmapped s _ _) _
    | o4 | o5 => exact storeByte_nextOrUnmapped s _ _ _
    | o6 | o7 => exact loadReg_nextOrUnmapped s _ _ _
  | o3 => cases y with
    | o0 | o6 | o7 => exact nextOrUnmapped_next
    | o1 =>
      show NextOrUnmapped s (exec (decodeCb b1) s)
      rw [exec_decodeCb]
      exact runCb_nextOrUnmapped s b1
    | o2 | o3 | o4 | o5 => exact absurd rfl h
  | o4 => cases y with
    | o0 | o1 | o2 | o3 => exact conditional_nextOrUnmapped s _ (callTo_nextOrUnmapped s _ 24) _
    | o4 | o5 | o6 | o7 => exact absurd rfl h
  | o5 => cases y with
    | o0 | o2 | o4 | o6 => exact pushPair_nextOrUnmapped s _
    | o1 => exact callTo_nextOrUnmapped s _ 24
    | o3 | o5 | o7 => exact absurd rfl h
  | o6 =>
    show NextOrUnmapped s (exec (aluImmInstr b1 (aluOpOf y)) s)
    rw [exec_aluImmInstr]
    exact nextOrUnmapped_next
  | o7 =>
    show NextOrUnmapped s (exec (rstInstr y) s)
    rw [exec_rstInstr]
    exact callTo_nextOrUnmapped s _ 16

theorem decodeOp_nextOrUnmapped (s : State) (op b1 b2 : Byte) (h : decodeOp op b1 b2 ≠ .illegal op) :
    NextOrUnmapped s (exec (decodeOp op b1 b2) s) := by
  obtain ⟨y, z, ⟨-, hi⟩ | ⟨-, hi⟩ | ⟨-, hi⟩ | ⟨-, hi⟩⟩ := decodeOp_cases op b1 b2 <;> rw [hi] at h ⊢
  · exact decodeX0_nextOrUnmapped s y z b1 b2
  · exact ldInstr_nextOrUnmapped s _ _
  · exact aluInstr_nextOrUnmapped s _ _
  · exact decodeX3_nextOrUnmapped s op y z b1 b2 h

/-! ### Every instruction -/

/-- A well-formed instruction stands in a row of the map, since its encoding decodes to it (R120, R121). -/
theorem exists_decodeOp_of_wellFormed {i : Instr} (h : i.wellFormed = true) : ∃ op b1 b2, i = decodeOp op b1 b2 := by
  rcases decode_inv (decodeOfEncode i [] h) with ⟨-, rfl, -⟩ | ⟨op, b1, b2, hi, -⟩
  · cases h
  · exact ⟨op, b1, b2, hi⟩

theorem exec_nextOrUnmapped {i : Instr} (s : State) (h : ∀ op, i ≠ .illegal op) : NextOrUnmapped s (exec i s) := by
  by_cases hp : i = .prefix_CB
  · subst hp
    exact execPrefix_CB_nextOrUnmapped s
  · have hw : i.wellFormed = true := by
      cases i
      case prefix_CB => exact absurd rfl hp
      case illegal op => exact absurd rfl (h op)
      all_goals rfl
    obtain ⟨op, b1, b2, rfl⟩ := exists_decodeOp_of_wellFormed hw
    exact decodeOp_nextOrUnmapped s op b1 b2 (h op)

/-- Settles O54. -/
theorem everyInstructionCompletes : Obligations.EveryInstructionCompletes := by
  intro i s h
  rcases exec_nextOrUnmapped s h with hnext | ⟨hstrict, hfault⟩
  · exact ⟨fun _ => hnext, .inl hnext⟩
  · exact ⟨fun hb => Bool.noConfusion (hstrict.symm.trans hb), .inr hfault⟩

end Sys2Proof.Machine
end
